-- ==== Sys2Proof/Word.lean ====
section
/-!
DEFINITION. The word types of the LA816 (R2, R3, R5, R203): bytes, two-byte fields, station and outlet numbers, bins.
-/
namespace Sys2Proof

/-- A byte of a record or a payload (R203, R200). -/
abbrev Byte := BitVec 8

/-- A two-byte field or a 16-bit set (R2, R13, R14, R203). -/
abbrev Half := BitVec 16

/-- A station number, 0 to 15. -/
abbrev StationNum := Fin 16

/-- An outlet number, 0 to 7. -/
abbrev OutletNum := Fin 8

/-- A priority, 0 to 7. -/
abbrev Prio := Fin 8

/-- A count of units of a bin or a weight, 0 to 4095 (R3, R5). -/
abbrev Units := Fin 4096

/-- A shed level or a local shed count, 0 to 8 (R10, R142). -/
abbrev Level := Fin 9

/-- The value kept at or below 8. -/
def toLevel (n : Nat) : Level := ⟨min n 8, by omega⟩

/-- The value kept at or below 4095, the range of a bin (R3). -/
def toUnits (n : Nat) : Units := ⟨min n 4095, by omega⟩

/-- All station numbers in ascending order. -/
def allStations : List StationNum := [0, 1, 2, 3, 4, 5, 6, 7, 8, 9, 10, 11, 12, 13, 14, 15]

/-- All outlet numbers in ascending order. -/
def allOutlets : List OutletNum := [0, 1, 2, 3, 4, 5, 6, 7]

end Sys2Proof
end

