-- ==== Sys2Proof/Syntax.lean ====
section
/-!
DEFINITION. The commands the station takes, one constructor per row of the command table, with the operands a row
carries: the argument bytes of a port request (R203), the fields of an accepted frame (R200), the level of an input.
-/
namespace Sys2Proof

/-- A 3-byte entry as a frame carries it (R200): station, outlet, priority, weight and the two pad bits. -/
structure WireEntry where
  station : StationNum
  outlet : OutletNum
  priority : Prio
  weight : Units
  pad : Fin 4
deriving DecidableEq, Repr

/-- One row of a SNAPSHOT (R200): a station byte and a bin block of eight 12-bit bins. -/
structure WireRow where
  station : Byte
  bins : Vector Units 8
deriving DecidableEq, Repr

/-- What a SNAPSHOT carries after its target (R60, R200). The counts are the lengths of the lists. -/
structure SnapshotContent where
  digest : Half
  shedLevel : Byte
  members : Half
  rows : List WireRow
  wait : List WireEntry
  start : List WireEntry
  check : Half
deriving DecidableEq, Repr

/-- What a RESYNC carries (R68, R200): digest, truth bins and declared start entries. -/
structure ResyncContent where
  digest : Half
  bins : Vector Units 8
  entries : List WireEntry
deriving DecidableEq, Repr

/-- The kind and payload of a tie frame (R200). -/
inductive FrameBody where
  | shed (level : Byte)
  | restore
  | snapshot (target : Byte) (content : SnapshotContent)
  | refuse (target : Byte) (digest : Half)
  | join (digest : Half)
  | resync (content : ResyncContent)
  | leave
  | forget (target : Byte)
  | started (outlet : Byte)
  | cancel (outlet : Byte)
  | release (outlet : Byte) (priority : Fin 16) (weight : Units)
  | claim (outlet : Byte) (priority : Fin 16) (weight : Units)
  | presence (check : Half)
deriving DecidableEq, Repr

/-- A tie frame: the station of its arbitration field and its body (R84). -/
structure TieFrame where
  sender : StationNum
  body : FrameBody
deriving DecidableEq, Repr

/-- A frame as a receiver reads it up to the veto slot, before it is known to be good (R90). -/
structure RawFrame where
  kind : Fin 16
  station : StationNum
  length : Fin 512
  payload : List Byte
  check : Half
deriving DecidableEq, Repr

/-- The 14 argument bytes of SET_SHARED (R203). -/
structure RawShared where
  capacity : Half
  headroom : Half
  essential : Byte
  cap : Half
  slots : Byte
  order : Byte
  rate : Byte
  presence : Half
  wait : Half
deriving DecidableEq, Repr

/-- The 7 argument bytes of SET_OUTLET (R203). -/
structure RawOutlet where
  outlet : Byte
  flags : Byte
  weight : Half
  priority : Byte
  settle : Byte
  bleed : Byte
deriving DecidableEq, Repr

/-- The 13 argument bytes of SET_LOCAL (R203). -/
structure RawLocal where
  reserveUnits : Byte
  reserveThreshold : Byte
  railThreshold : Byte
  sagFilter : Byte
  inrushFilter : Byte
  stepInterval : Half
  clock : Byte
  enable : Byte
  mask : Half
  severity : Half
deriving DecidableEq, Repr

/-- The commands: one constructor per row of the command table. -/
inductive Instr where
  -- the command port (chapter 8)
  | transactionStart
  | badFormat (bytes : List Byte) (brokenBits : Fin 8)
  | nop
  | setShared (r : RawShared)
  | setOutlet (r : RawOutlet)
  | setLocal (r : RawLocal)
  | join
  | readStatus (part : Byte)
  | readOutlet (outlet : Byte)
  | readRow (row : Byte)
  | readWait (index : Byte)
  | readStart (index : Byte)
  | readPeer (peer : Byte)
  | readEvent
  | readFaults
  | clearFaults (faults : Half)
  | clearSticky
  | mark
  | reset
  | dormant (keepClock : Byte)
  | outletOn (outlet : Byte)
  | outletOff (outlet : Byte)
  | outletClear (outlet : Byte)
  | shed
  | restore
  | leave
  | forget (target : Byte)
  | resync
  -- the tie bus (chapter 4)
  | busIdle
  | startAttempt
  | arbitrationLost
  | abortMark
  | formatError (dominantRun : Bool)
  | frameVetoed (rx : RawFrame)
  | acceptShed (sender : StationNum) (level : Byte)
  | acceptRestore (sender : StationNum)
  | acceptSnapshot (sender : StationNum) (target : Byte) (content : SnapshotContent)
  | acceptRefuse (sender : StationNum) (target : Byte) (digest : Half)
  | acceptJoin (sender : StationNum) (digest : Half)
  | acceptResync (sender : StationNum) (content : ResyncContent)
  | acceptLeave (sender : StationNum)
  | acceptForget (sender : StationNum) (target : Byte)
  | acceptStarted (sender : StationNum) (outlet : Byte)
  | acceptCancel (sender : StationNum) (outlet : Byte)
  | acceptRelease (sender : StationNum) (outlet : Byte) (priority : Fin 16) (weight : Units)
  | acceptClaim (sender : StationNum) (outlet : Byte) (priority : Fin 16) (weight : Units)
  | acceptPresence (sender : StationNum) (check : Half)
  -- the membership timers (chapter 3)
  | snapshotWaitExpiry (receiving : Bool)
  | presenceTimerExpiry
  | silenceTimeout (peer : StationNum)
  | muteResyncAttempt
  | isolationTimerExpiry
  -- the outlets (chapter 5)
  | gapExpiry (outlet : OutletNum)
  | settleTimerExpiry (outlet : OutletNum)
  | bleedExpiry (outlet : OutletNum)
  | settle (outlet : OutletNum) (asserted : Bool)
  | trip (outlet : OutletNum) (asserted : Bool)
  -- the shed line (chapter 6)
  | shedPulse
  | shedLineReady
  | pulseDriveEnd
  | stepTimerExpiry
  | shedFrameWaitExpiry
  -- the monitors (chapter 7); a sense level is in thousandths of the nominal level
  | railSagRise (sense : Nat) (ticks : Nat)
  | railSagFall (sense : Nat)
  | reserveLowRise (sense : Nat) (ticks : Nat)
  | reserveLowFall (sense : Nat)
  -- clocks and resets (chapter 10)
  | pllLock
  | lockLimitExpiry
  | lossOfLock
  | crystalStop
  | powerOnReset
  | resetInput
  | resetCompletion (address : StationNum)
  | executionComplete
  | shedLineRise
  | uncountedShedFall
  | oscillatorRunning
  | resetInputRelease
deriving DecidableEq, Repr

end Sys2Proof
end

