-- ==== Sys2Proof/Decode.lean ====
section
/-!
DEFINITION. The command a word of the command table spells. The table gives no row any bits, so no word spells one.
-/
namespace Sys2Proof

/-- The command that a word of `nbits` bits spells by the table: none, since no row has bits. -/
def decodeTableWord (_nbits _w : Nat) : Option Instr := none

end Sys2Proof
end

