-- ==== Sys2Proof/Config.lean ====
section
/-!
DEFINITION. The three free values of the model: what the manual leaves open with the station going on.
Nothing in Lean can evaluate them. The step draws one with the counter `State.freeCount`.
-/
namespace Sys2Proof.Config

/-- Which of several events that fall due at one millisecond tick is treated next (R182, R128, R161, R192: "in either
order"). Free value, log entry 2. -/
opaque tickOrder : Nat → Nat

/-- Whether a trip input is taken before a settle input when both are asserted at the instant a weak switch closes
(R127, R129: "at the same instant in either order"). Free value, log entry 3. -/
opaque tripFirst : Nat → Bool

/-- Whether another station's frame is being received at the millisecond tick at which the snapshot wait runs out (R57): the
table has no row for the start of such a frame. Free value, log entry 39. -/
opaque frameOnBus : Nat → Bool

end Sys2Proof.Config
end

