-- ==== Sys2Proof/Machine/State.lean ====
section
/-!
DEFINITION. The state of one LA816 station as plain data, the reasons a step can stop, and the state after power-on reset.
-/
namespace Sys2Proof.Machine

/-! ## Enumerations, in the order in which R203 numbers them -/

/-- The station states (R49). -/
inductive StationState where
  | config | joining | synced | resyncing | mute | isolated | refused | leaving | dormant
deriving DecidableEq, Repr

/-- The causes of a STATION event (R49). -/
inductive StationCause where
  | command | snapshot | founded | refused | timeout | divergence | vetoLimit | sendFailed | recovered | isolation
  | fatal | left
deriving DecidableEq, Repr

/-- The outlet states (R110). -/
inductive OutletState where
  | off | queued | waiting | cancelling | admitted | soft | on | stopping | dropped | shed | fault
deriving DecidableEq, Repr

/-- The paths of an outlet (R112). -/
inductive OutletPath where
  | allOpen | reserve | weak | full
deriving DecidableEq, Repr

/-- What a DROPPED outlet was before the pulse (R110, R144). -/
inductive HeldAs where
  | on | soft
deriving DecidableEq, Repr

/-- The standing of an outlet in the account (R9). -/
inductive Standing where
  | absent | listed | admitted | slot
deriving DecidableEq, Repr

/-- The presences of the peer table (R51). -/
inductive Presence where
  | absent | present | lost | self
deriving DecidableEq, Repr

/-- A duty owed to a joining or resynchronising station (R51). -/
inductive Duty where
  | none | snapshot | refuse
deriving DecidableEq, Repr

/-- The causes of an OUTLET event (R115, then R154). -/
inductive OutletCause where
  | command | admitted | waiting | shedLevel | oversize | duplicate | listFull | notMember | pass | slot | settled
  | settleTimeout | overcurrent | accepted | bleed | reserveLow | account | resync | station | pulse | shed | restore
deriving DecidableEq, Repr

/-- The sixteen faults (9.2). -/
inductive FaultName where
  | sendFailed | isolationTimeout | vetoLimit | divergence | duplicateNumber | joinRefused | joinTimeout | clockUnlock
  | settleTimeout | overcurrent | reserveLow | railSag | overcommit | eventOverflow | foreignFrame | forgotten
deriving DecidableEq, Repr

/-- The causes of a reset (R196). -/
inductive ResetCause where
  | powerOn | resetInput | resetCommand
deriving DecidableEq, Repr

/-- The statuses of a response record (R173, R203). -/
inductive Status where
  | ok | notReady | busy | refusedState | badArgument | badFormat | idle
deriving DecidableEq, Repr

/-- The refusal reasons (R203). -/
inductive RefusalReason where
  | stationState | outletState | shedLevel | railSag | outletNotOff | forgetTarget | capacityZero | reserveLow
deriving DecidableEq, Repr

/-- The wait order (R11). -/
inductive WaitOrder where
  | strict | fit
deriving DecidableEq, Repr

/-- The reserve threshold select (R163). -/
inductive ReserveThreshold where
  | standard | extended
deriving DecidableEq, Repr

/-- The reference sources (R193). -/
inductive ClockSource where
  | internal | crystal8 | crystal12 | crystal16
deriving DecidableEq, Repr

/-- The states of the PLL (R193). -/
inductive PllState where
  | stopped | starting | locked
deriving DecidableEq, Repr

/-- The modes of the tie interface (R80). -/
inductive TieMode where
  | off | seeking | active | listening
deriving DecidableEq, Repr

/-- The states of the shed line (R137). -/
inductive LineState where
  | asserted | recovering | ready
deriving DecidableEq, Repr

/-- A frame kept due in an outlet record (R110, R116). -/
inductive DueFrame where
  | cancel | release
deriving DecidableEq, Repr

/-- A RESYNC that is to be posted once no own outlet is in SOFT (R67, R71): none, the first of a stay in RESYNCING, or a
repeated one, whose posting clears the founding mark. -/
inductive ResyncWish where
  | none | first | again
deriving DecidableEq, Repr

/-! ## Settings -/

/-- The shared settings record (R11, R12). -/
structure SharedSettings where
  capacity : Units := 0
  headroom : Units := 0
  essential : Fin 9 := 8
  cap : Units := 0
  slots : Fin 5 := 1
  order : WaitOrder := .strict
  rate : Fin 5 := 2
  presence : Fin 1001 := 100
  wait : Fin 501 := 100
deriving DecidableEq, Repr

/-- The station-local settings record (R174). -/
structure StationSettings where
  reserveUnits : Fin 256 := 0
  reserveThreshold : ReserveThreshold := .standard
  railThreshold : Fin 16 := 8
  sagFilter : Fin 16 := 4
  inrushFilter : Fin 61 := 20
  stepInterval : Fin 501 := 50
  clock : ClockSource := .internal
  enable : BitVec 5 := 0b11111#5
  mask : Half := 0#16
  severity : Half := 0x8090#16
deriving DecidableEq, Repr

/-- The configuration the host wrote, with what sealing adds (R12, R13, R174, R175). -/
structure Settings where
  shared : SharedSettings := {}
  /-- The digest computed at sealing; none while unsealed (R13, R22). -/
  digest : Option Half := none
  awaitingLock : Bool := false
  station : StationSettings := {}
deriving DecidableEq, Repr

/-- The configuration of one outlet (R111). -/
structure OutletConfig where
  enabled : Bool := false
  weight : Units := 1
  priority : Prio := 0
  reserveAllowed : Bool := false
  autoReclaim : Bool := false
  settleTimeout : Fin 251 := 50
  bleedTime : Fin 251 := 10
deriving DecidableEq, Repr

/-! ## The shared account -/

/-- An entry of the wait list or the start queue (R5). -/
structure Entry where
  station : StationNum
  outlet : OutletNum
  priority : Prio
  weight : Units
deriving DecidableEq, Repr

/-- One row of the budget table: eight bins by priority (R3). -/
abbrev Row := Vector Units 8

/-- A row of zeros. -/
def Row.zero : Row := Vector.replicate 8 0

/-- The replica: the five parts of the shared account (R1). -/
structure Replica where
  shedLevel : Level
  members : Half
  rows : Vector Row 16
  wait : List Entry
  start : List Entry
deriving DecidableEq, Repr

/-- The empty account (R1). -/
def Replica.empty : Replica where
  shedLevel := 0
  members := 0#16
  rows := Vector.replicate 16 Row.zero
  wait := []
  start := []

/-! ## Outlets -/

/-- One outlet record (R110). A timer is the number of ticks left, none when stopped. -/
structure Outlet where
  config : OutletConfig := {}
  state : OutletState := .off
  path : OutletPath := .allOpen
  heldAs : Option HeldAs := none
  standing : Standing := .absent
  gap : Option Nat := none
  settle : Option Nat := none
  bleed : Option Nat := none
  claimOutstanding : Bool := false
  due : Option DueFrame := none
deriving DecidableEq, Repr

/-! ## The tie interface -/

/-- A frame in the send queue (R101): what it is and what it takes to compose it (R89). -/
inductive QueueItem where
  | shed (level : Level)
  | restore
  | snapshot (target : StationNum)
  | refuse (target : StationNum) (digest : Half)
  | join (digest : Half)
  /-- `once` marks the attempt made in MUTE (R73). -/
  | resync (once : Bool)
  | leave
  | forget (target : StationNum)
  | started (outlet : OutletNum)
  | cancel (outlet : OutletNum)
  | release (outlet : OutletNum) (priority : Prio) (weight : Units)
  | claim (outlet : OutletNum) (priority : Prio) (weight : Units)
  | presence
deriving DecidableEq, Repr

/-- A posted frame (R101): its posting sequence, failed-attempt count (R95) and mark for withdrawal (R105). -/
structure Posted where
  seq : Nat
  item : QueueItem
  failed : Fin 4 := 0
  marked : Bool := false
deriving DecidableEq, Repr

/-- The attempt in flight (R86, R89): which posted frame, what was composed, the bits driven from start bit to end field
(true is recessive). -/
structure Transmission where
  seq : Nat
  frame : TieFrame
  wire : List Bool
deriving DecidableEq, Repr

/-- The tie interface (R80 to R105). -/
structure Tie where
  mode : TieMode := .off
  rate : Fin 5 := 2
  recessive : Fin 13 := 0
  receiving : Bool := false
  tx : Option Transmission := none
  aborting : Bool := false
  vetoRun : Fin 9 := 0
  suppressed : Bool := false
  queue : List Posted := []
  nextSeq : Nat := 0
deriving DecidableEq, Repr

/-! ## Membership -/

/-- One entry of the peer table (R51). -/
structure Peer where
  presence : Presence := .absent
  silence : Nat := 0
  duty : Duty := .none
  refusal : Option Half := none
deriving DecidableEq, Repr

/-- The membership unit (R49 to R79). -/
structure Membership where
  station : StationState := .config
  attempt : Fin 4 := 0
  foundingMark : Bool := false
  remembered : Half := 0#16
  awaiting : Bool := false
  snapshotWait : Option Nat := none
  /-- The snapshot wait has expired while a frame is being received (R57). -/
  waitExpired : Bool := false
  presenceTimer : Option Nat := none
  isolationTimer : Option Nat := none
  muteTimer : Option Nat := none
  resyncWish : ResyncWish := .none
  peers : Vector Peer 16 := Vector.replicate 16 {}
deriving DecidableEq, Repr

/-! ## Shedding and the monitors -/

/-- The shed unit (R137 to R148). -/
structure Shed where
  line : LineState := .recovering
  driving : Bool := false
  localCount : Level := 0
  stepTimer : Option Nat := none
  frameWait : Option Nat := none
  postPending : Bool := false
deriving DecidableEq, Repr

/-- A monitor: filter count, live and sticky flags, inrush mark (R158, R159, R162, R164). The inrush mark of the reserve
monitor is never set. -/
structure Monitor where
  count : Fin 61 := 0
  live : Bool := false
  sticky : Bool := false
  inrush : Bool := false
deriving DecidableEq, Repr

/-! ## Events and faults -/

/-- An event record (R182). -/
inductive EventRecord where
  | outlet (outlet : OutletNum) (state : OutletState) (cause : OutletCause)
  | station (state : StationState) (cause : StationCause)
  | peer (station : StationNum) (presence : Presence)
  | shedLevel (level : Level)
  | fault (fault : FaultName)
deriving DecidableEq, Repr

/-- The report unit (R182 to R192). -/
structure Report where
  events : List EventRecord := []
  overflow : Bool := false
  status : Half := 0#16
  first : Option FaultName := none
  attention : Bool := false
  resetCause : ResetCause := .powerOn
  /-- A fatal fault was recorded in the treatment under way (R188). -/
  escalate : Bool := false
deriving DecidableEq, Repr

/-! ## The command port -/

/-- A response record (R203): status, echoed code, data. -/
structure Response where
  status : Status
  code : Byte
  data : List Byte
deriving DecidableEq, Repr

/-- The IDLE record (R203). -/
def Response.idle : Response := ⟨.idle, 255#8, []⟩

/-- A request in execution (R172): its code, and the response once its effect is made; none for RESET (R179). -/
structure Execution where
  code : Byte
  response : Option Response
deriving DecidableEq, Repr

/-- The command port (R170 to R179). -/
structure Port where
  selectLow : Bool := false
  discard : Bool := false
  receiveBuffer : List Byte := []
  responseBuffer : Option Response := some .idle
  executing : Option Execution := none
  lastResponse : Option Response := none
  drainSet : List Nat := []
  drained : Bool := true
deriving DecidableEq, Repr

/-! ## Clock, pins, reset -/

/-- The clock unit (R193). -/
structure Clock where
  source : ClockSource := .internal
  running : Bool := true
  starting : Option ClockSource := none
  pll : PllState := .stopped
  lockLimit : Option Nat := none
deriving DecidableEq, Repr

/-- The input pins as they last stood (10.5). Sense levels are in thousandths of the nominal level. -/
structure Pins where
  address : StationNum := 15
  settle : BitVec 8 := 0#8
  trip : BitVec 8 := 0#8
  shedLow : Bool := false
  railSense : Nat := 1000
  reserveSense : Nat := 1000
deriving DecidableEq, Repr

/-- A reset in progress (R196): its cause and whether the reset input is still held low. -/
structure ResetRun where
  cause : ResetCause
  held : Bool
deriving DecidableEq, Repr

/-- The station: everything the manual gives it. -/
structure Station where
  /-- The station number latched at the last reset (R196). -/
  number : StationNum
  resetting : Option ResetRun
  pins : Pins
  port : Port
  settings : Settings
  clock : Clock
  tie : Tie
  replica : Replica
  /-- The state check held by the account unit (R14). -/
  check : Half
  membership : Membership
  outlets : Vector Outlet 8
  shed : Shed
  rail : Monitor
  reserve : Monitor
  report : Report
  /-- How many free values of `Config` have been drawn (log entry 2). -/
  freeCount : Nat
deriving DecidableEq, Repr

/-- The state of the model: the station, and two fields of the model's own form. -/
structure State extends Station where
  /-- While a request executes: the station as it stands if that request never has its effect. Every row acts on it as on the
  station, and a reset that abandons the execution goes on from it (R179, log entry 7). -/
  unexecuted : Option Station
  /-- The commands that wait, first in, first out. -/
  pending : List Instr
deriving DecidableEq, Repr

/-- The reasons for a fault stop. None exists: every command of the table has an effect in every state, so no meaning
raises a fault, and the type is empty. -/
inductive Fault where
deriving DecidableEq, Repr

/-- The reasons for a refusal. -/
inductive Refusal where
  /-- Raised by an arm of `exec` whose command has no meaning yet. Safe: nothing is claimed of it. No arm raises it. -/
  | notModelled (mnemonic : String)
deriving DecidableEq, Repr

/-- The outcome of a command. -/
abbrev Result := Host.Outcome State Fault Refusal

/-- The state check of the empty account (R14, R22); `Sys2Proof.Laws.reset_check` shows that it is the CRC of that
account. -/
def emptyCheck : Half := 0xbe27#16

/-- The station after power-on reset with nothing on its inputs (R22, R49, R51, R80, R104, R110, R137, R168, R177, R192,
R196). The levels of the input pins are log entry 12. -/
def State.reset : State where
  number := 15
  resetting := none
  pins := {}
  port := {}
  settings := {}
  clock := {}
  tie := {}
  replica := .empty
  check := emptyCheck
  membership := {}
  outlets := Vector.replicate 8 {}
  shed := {}
  rail := {}
  reserve := {}
  report := {}
  freeCount := 0
  unexecuted := none
  pending := []

end Sys2Proof.Machine
end

