-- ==== Sys2Proof/Machine/Crc.lean ====
section
/-!
DEFINITION. The CRC of R199 over a string of bits, and the two strings of the station it is taken over: the shared
settings record (R13) and the canonical encoding of the replica (R14).
-/
namespace Sys2Proof.Machine

/-- The lowest `w` bits of a number, most significant bit first. -/
def bitsMsb : Nat → Nat → List Bool
  | 0, _ => []
  | w + 1, n => n.testBit w :: bitsMsb w n

/-- The bytes of a number of `w` bytes, high byte first (chapter 11). -/
def bytesMsb : Nat → Nat → List Byte
  | 0, _ => []
  | w + 1, n => BitVec.ofNat 8 (n / 256 ^ w) :: bytesMsb w n

/-- The bits of a byte string, each byte most significant bit first. -/
def bitsOfBytes (bytes : List Byte) : List Bool := bytes.flatMap fun b => bitsMsb 8 b.toNat

/-- The CRC register after the bits, with the polynomial x^16 + x^12 + x^5 + 1 (R199). -/
def crcFrom : List Bool → Nat → Nat
  | [], r => r
  | b :: bits, r =>
    if r.testBit 15 != b then crcFrom bits ((2 * r % 65536) ^^^ 0x1021) else crcFrom bits (2 * r % 65536)

/-- The CRC of R199: initial register all ones, neither reflected nor inverted. -/
def crcOfBits (bits : List Bool) : Half := BitVec.ofNat 16 (crcFrom bits 65535)

/-- A 3-byte entry (R200): station, outlet, priority, weight, two pad bits. -/
def entryNat (station outlet priority weight pad : Nat) : Nat :=
  (((station * 8 + outlet) * 8 + priority) * 4096 + weight) * 4 + pad

/-- The 24 bits of an entry of the account (R14). -/
def Entry.bits (e : Entry) : List Bool :=
  bitsMsb 24 (entryNat e.station.val e.outlet.val e.priority.val e.weight.val 0)

/-- The 96 bits of a bin block (R200). -/
def binBlockBits (row : Vector Units 8) : List Bool := row.toList.flatMap fun b => bitsMsb 12 b.val

/-- The canonical encoding of the replica (R14), as bits. -/
def canonicalBits (r : Replica) : List Bool :=
  bitsMsb 8 r.shedLevel.val ++ bitsMsb 16 r.members.toNat ++ r.rows.toList.flatMap binBlockBits
    ++ bitsMsb 8 r.wait.length ++ r.wait.flatMap Entry.bits
    ++ bitsMsb 8 r.start.length ++ r.start.flatMap Entry.bits

/-- The state check of a replica (R14). -/
def checkOf (r : Replica) : Half := crcOfBits (canonicalBits r)

/-- The station cap in force: a cap written as 0 stands for C (R11, R12). -/
def effectiveCap (c : SharedSettings) : Units := if c.cap = 0 then c.capacity else c.cap

/-- The code of a wait order (R203). -/
def WaitOrder.code : WaitOrder → Nat
  | .strict => 0
  | .fit => 1

/-- The 14 bytes of the shared settings record (R203). -/
def sharedBytes (c : SharedSettings) : List Byte :=
  bytesMsb 2 c.capacity.val ++ bytesMsb 2 c.headroom.val ++ bytesMsb 1 c.essential.val ++ bytesMsb 2 c.cap.val
    ++ bytesMsb 1 c.slots.val ++ bytesMsb 1 c.order.code ++ bytesMsb 1 c.rate.val ++ bytesMsb 2 c.presence.val
    ++ bytesMsb 2 c.wait.val

/-- The digest of a shared settings record: the CRC over its bytes with the cap in its effective form (R13, R199). -/
def digestOf (c : SharedSettings) : Half := crcOfBits (bitsOfBytes (sharedBytes { c with cap := effectiveCap c }))

end Sys2Proof.Machine
end

