-- ==== Sys2Proof/Machine/Operands.lean ====
section
/-!
DEFINITION. The operands of the port requests: codes (R203), argument lengths, range checks (R174, R204), and the byte
layouts of the records the port returns (R203).
-/
namespace Sys2Proof.Machine

/-! ## Codes of enumerated values (R203) -/

/-- The code of a station state. -/
def StationState.code : StationState → Nat
  | .config => 0 | .joining => 1 | .synced => 2 | .resyncing => 3 | .mute => 4 | .isolated => 5 | .refused => 6
  | .leaving => 7 | .dormant => 8

/-- The code of a station cause. -/
def StationCause.code : StationCause → Nat
  | .command => 0 | .snapshot => 1 | .founded => 2 | .refused => 3 | .timeout => 4 | .divergence => 5 | .vetoLimit => 6
  | .sendFailed => 7 | .recovered => 8 | .isolation => 9 | .fatal => 10 | .left => 11

/-- The code of an outlet state. -/
def OutletState.code : OutletState → Nat
  | .off => 0 | .queued => 1 | .waiting => 2 | .cancelling => 3 | .admitted => 4 | .soft => 5 | .on => 6 | .stopping => 7
  | .dropped => 8 | .shed => 9 | .fault => 10

/-- The code of a path. -/
def OutletPath.code : OutletPath → Nat
  | .allOpen => 0 | .reserve => 1 | .weak => 2 | .full => 3

/-- The code of a held-as value. -/
def heldCode : Option HeldAs → Nat
  | none => 0 | some .on => 1 | some .soft => 2

/-- The code of a standing. -/
def Standing.code : Standing → Nat
  | .absent => 0 | .listed => 1 | .admitted => 2 | .slot => 3

/-- The code of a presence. -/
def Presence.code : Presence → Nat
  | .absent => 0 | .present => 1 | .lost => 2 | .self => 3

/-- The code of a duty. -/
def Duty.code : Duty → Nat
  | .none => 0 | .snapshot => 1 | .refuse => 2

/-- The code of an outlet cause. -/
def OutletCause.code : OutletCause → Nat
  | .command => 0 | .admitted => 1 | .waiting => 2 | .shedLevel => 3 | .oversize => 4 | .duplicate => 5 | .listFull => 6
  | .notMember => 7 | .pass => 8 | .slot => 9 | .settled => 10 | .settleTimeout => 11 | .overcurrent => 12
  | .accepted => 13 | .bleed => 14 | .reserveLow => 15 | .account => 16 | .resync => 17 | .station => 18 | .pulse => 19
  | .shed => 20 | .restore => 21

/-- The number of a fault (9.2). -/
def FaultName.num : FaultName → Fin 16
  | .sendFailed => 0 | .isolationTimeout => 1 | .vetoLimit => 2 | .divergence => 3 | .duplicateNumber => 4
  | .joinRefused => 5 | .joinTimeout => 6 | .clockUnlock => 7 | .settleTimeout => 8 | .overcurrent => 9
  | .reserveLow => 10 | .railSag => 11 | .overcommit => 12 | .eventOverflow => 13 | .foreignFrame => 14
  | .forgotten => 15

/-- The code of a reset cause. -/
def ResetCause.code : ResetCause → Nat
  | .powerOn => 0 | .resetInput => 1 | .resetCommand => 2

/-- The code of a status. -/
def Status.code : Status → Nat
  | .ok => 0 | .notReady => 1 | .busy => 2 | .refusedState => 3 | .badArgument => 4 | .badFormat => 5 | .idle => 6

/-- The code of a refusal reason. -/
def RefusalReason.code : RefusalReason → Nat
  | .stationState => 0 | .outletState => 1 | .shedLevel => 2 | .railSag => 3 | .outletNotOff => 4 | .forgetTarget => 5
  | .capacityZero => 6 | .reserveLow => 7

/-- The code of a clock source. -/
def ClockSource.code : ClockSource → Nat
  | .internal => 0 | .crystal8 => 1 | .crystal12 => 2 | .crystal16 => 3

/-- The code of a reserve threshold. -/
def ReserveThreshold.code : ReserveThreshold → Nat
  | .standard => 0 | .extended => 1

/-! ## Requests (R172, R203) -/

/-- The argument length of the command with a code; none where the code names no command. -/
def requestLength (code : Nat) : Option Nat :=
  [0, 14, 7, 13, 0, 1, 1, 1, 1, 1, 1, 0, 0, 2, 0, 0, 0, 1, 1, 1, 1, 0, 0, 0, 1, 0][code]?

/-- Whether a captured request is of correct form (R172). -/
def wellFormedRequest (bytes : List Byte) (brokenBits : Fin 8) : Bool :=
  match bytes with
  | code :: len :: args =>
    brokenBits == 0 && requestLength code.toNat == some len.toNat && args.length == len.toNat
  | _ => false

/-! ## Range checks of the three records (R11, R12, R111, R174, R204) -/

/-- A number as a member of `Fin (hi + 1)` when it lies from `lo` to `hi`. -/
def inRange (lo hi n : Nat) : Option (Fin (hi + 1)) := if h : lo ≤ n ∧ n ≤ hi then some ⟨n, by omega⟩ else none

/-- The wait order of a code (R203). -/
def waitOrderOf (n : Nat) : Option WaitOrder := if n = 0 then some .strict else if n = 1 then some .fit else none

/-- The reserve threshold of a code (R203). -/
def reserveThresholdOf (n : Nat) : Option ReserveThreshold :=
  if n = 0 then some .standard else if n = 1 then some .extended else none

/-- The clock source of a code (R203). -/
def clockSourceOf (n : Nat) : Option ClockSource :=
  if n = 0 then some .internal else if n = 1 then some .crystal8 else if n = 2 then some .crystal12
  else if n = 3 then some .crystal16 else none

/-- The shared settings a SET_SHARED carries, when every field is in range (R11, R12, R174, R204). -/
def checkShared (r : RawShared) : Option SharedSettings := do
  let c ← inRange 0 4095 r.capacity.toNat
  let e ← inRange 0 4095 r.headroom.toNat
  let p ← inRange 0 8 r.essential.toNat
  let cap ← inRange 0 4095 r.cap.toNat
  let k ← inRange 1 4 r.slots.toNat
  let o ← waitOrderOf r.order.toNat
  let rate ← inRange 0 4 r.rate.toNat
  let i ← inRange 10 1000 r.presence.toNat
  let w ← inRange 20 500 r.wait.toNat
  if e.val ≤ c.val - 1 ∧ cap.val ≤ c.val then
    some { capacity := c, headroom := e, essential := p, cap := cap, slots := k, order := o, rate := rate, presence := i,
           wait := w }
  else none

/-- The outlet and configuration a SET_OUTLET carries, when every field is in range (R111, R204). -/
def checkOutlet (r : RawOutlet) : Option (OutletNum × OutletConfig) := do
  let o ← inRange 0 7 r.outlet.toNat
  let _ ← inRange 0 7 r.flags.toNat
  let w ← inRange 1 4095 r.weight.toNat
  let p ← inRange 0 7 r.priority.toNat
  let t ← inRange 1 250 r.settle.toNat
  let b ← inRange 1 250 r.bleed.toNat
  some (o, { enabled := r.flags.getLsbD 0, weight := w, priority := p, reserveAllowed := r.flags.getLsbD 1,
             autoReclaim := r.flags.getLsbD 2, settleTimeout := t, bleedTime := b })

/-- The severity set as it is held: faults 4, 7 and 15 fatal, fault 1 advisory (R174, R188). -/
def heldSeverity (written : Half) : Half := (written ||| 0x8090#16) &&& ~~~(0x0002#16)

/-- The station-local settings a SET_LOCAL carries, when every field is in range (R174, R204). -/
def checkLocal (r : RawLocal) : Option StationSettings := do
  let ru ← inRange 0 255 r.reserveUnits.toNat
  let rt ← reserveThresholdOf r.reserveThreshold.toNat
  let t ← inRange 0 15 r.railThreshold.toNat
  let f ← inRange 1 15 r.sagFilter.toNat
  let i ← inRange 1 60 r.inrushFilter.toNat
  let st ← inRange 10 500 r.stepInterval.toNat
  let c ← clockSourceOf r.clock.toNat
  let _ ← inRange 0 31 r.enable.toNat
  some { reserveUnits := ru, reserveThreshold := rt, railThreshold := t, sagFilter := f, inrushFilter := i,
         stepInterval := st, clock := c, enable := r.enable.setWidth 5, mask := r.mask,
         severity := heldSeverity r.severity }

/-! ## Layouts of the returned records (R203) -/

/-- Eight bits as a byte, most significant first. -/
def flagsByte (b7 b6 b5 b4 b3 b2 b1 b0 : Bool) : Byte :=
  BitVec.ofBool b7 ++ BitVec.ofBool b6 ++ BitVec.ofBool b5 ++ BitVec.ofBool b4 ++ BitVec.ofBool b3 ++ BitVec.ofBool b2
    ++ BitVec.ofBool b1 ++ BitVec.ofBool b0

/-- The two bytes of a 16-bit set or check. -/
def halfBytes (h : Half) : List Byte := bytesMsb 2 h.toNat

/-- The configuration of an outlet less its outlet byte, six bytes. -/
def outletConfigBytes (c : OutletConfig) : List Byte :=
  flagsByte false false false false false c.autoReclaim c.reserveAllowed c.enabled
    :: bytesMsb 2 c.weight.val ++ bytesMsb 1 c.priority.val ++ bytesMsb 1 c.settleTimeout.val
    ++ bytesMsb 1 c.bleedTime.val

/-- The argument bytes of a SET_SHARED. -/
def rawSharedBytes (r : RawShared) : List Byte :=
  halfBytes r.capacity ++ halfBytes r.headroom ++ [r.essential] ++ halfBytes r.cap ++ [r.slots, r.order, r.rate]
    ++ halfBytes r.presence ++ halfBytes r.wait

/-- The argument bytes of a SET_OUTLET. -/
def rawOutletBytes (r : RawOutlet) : List Byte :=
  [r.outlet, r.flags] ++ halfBytes r.weight ++ [r.priority, r.settle, r.bleed]

/-- The argument bytes of a SET_LOCAL. -/
def rawLocalBytes (r : RawLocal) : List Byte :=
  [r.reserveUnits, r.reserveThreshold, r.railThreshold, r.sagFilter, r.inrushFilter] ++ halfBytes r.stepInterval
    ++ [r.clock, r.enable] ++ halfBytes r.mask ++ halfBytes r.severity

/-- The 13 bytes of the station-local record. -/
def localBytes (c : StationSettings) : List Byte :=
  bytesMsb 1 c.reserveUnits.val ++ bytesMsb 1 c.reserveThreshold.code ++ bytesMsb 1 c.railThreshold.val
    ++ bytesMsb 1 c.sagFilter.val ++ bytesMsb 1 c.inrushFilter.val ++ bytesMsb 2 c.stepInterval.val
    ++ bytesMsb 1 c.clock.code ++ bytesMsb 1 c.enable.toNat ++ halfBytes c.mask ++ halfBytes c.severity

/-- Two 12-bit bins in three bytes. -/
def binPairBytes (a b : Units) : List Byte := bytesMsb 3 (a.val * 4096 + b.val)

/-- The twelve bytes of a bin block. -/
def binBlockBytes (r : Vector Units 8) : List Byte :=
  binPairBytes r[0] r[1] ++ binPairBytes r[2] r[3] ++ binPairBytes r[4] r[5] ++ binPairBytes r[6] r[7]

/-- The three bytes of an entry of the account. -/
def Entry.bytes (e : Entry) : List Byte :=
  bytesMsb 3 (entryNat e.station.val e.outlet.val e.priority.val e.weight.val 0)

/-- The four bytes of an event record. -/
def EventRecord.bytes : EventRecord → List Byte
  | .outlet o st c => [0#8, BitVec.ofNat 8 o.val, BitVec.ofNat 8 st.code, BitVec.ofNat 8 c.code]
  | .station st c => [1#8, BitVec.ofNat 8 st.code, BitVec.ofNat 8 c.code, 0#8]
  | .peer n p => [2#8, BitVec.ofNat 8 n.val, BitVec.ofNat 8 p.code, 0#8]
  | .shedLevel l => [3#8, BitVec.ofNat 8 l.val, 0#8, 0#8]
  | .fault f => [4#8, BitVec.ofNat 8 f.num.val, 0#8, 0#8]

end Sys2Proof.Machine
end

