-- ==== Sys2Proof/Machine/Frames.lean ====
section
/-!
DEFINITION. Tie frames on the wire: kind codes and payloads (R200), check (R199), stuffing (R85), the bits a sender
drives (R84), bit times and sampling (R81, R82), what a receiver reads, and when that is good (R90, R201).
-/
namespace Sys2Proof.Machine

/-- The kind code of a frame (R200). -/
def kindCode : FrameBody → Fin 16
  | .shed .. => 0 | .restore => 1 | .snapshot .. => 2 | .refuse .. => 3 | .join .. => 4 | .resync .. => 5 | .leave => 6
  | .forget .. => 7 | .started .. => 8 | .cancel .. => 9 | .release .. => 10 | .claim .. => 11 | .presence .. => 12

/-- The three bytes of an entry on the wire (R200). -/
def wireEntryBytes (e : WireEntry) : List Byte :=
  bytesMsb 3 (entryNat e.station.val e.outlet.val e.priority.val e.weight.val e.pad.val)

/-- The two bytes of priority and weight (R200). -/
def priorityWeightBytes (p : Fin 16) (w : Units) : List Byte := bytesMsb 2 (p.val * 4096 + w.val)

/-- The payload bytes of a frame (R200). -/
def payloadBytes : FrameBody → List Byte
  | .shed level => [level]
  | .restore => []
  | .snapshot t c =>
    t :: halfBytes c.digest ++ [c.shedLevel] ++ halfBytes c.members
      ++ BitVec.ofNat 8 c.rows.length :: c.rows.flatMap (fun r => r.station :: binBlockBytes r.bins)
      ++ BitVec.ofNat 8 c.wait.length :: c.wait.flatMap wireEntryBytes
      ++ BitVec.ofNat 8 c.start.length :: c.start.flatMap wireEntryBytes
      ++ halfBytes c.check
  | .refuse t d => t :: halfBytes d
  | .join d => halfBytes d
  | .resync c =>
    halfBytes c.digest ++ binBlockBytes c.bins ++ BitVec.ofNat 8 c.entries.length :: c.entries.flatMap wireEntryBytes
  | .leave => []
  | .forget t => [t]
  | .started o => [o]
  | .cancel o => [o]
  | .release o p w => o :: priorityWeightBytes p w
  | .claim o p w => o :: priorityWeightBytes p w
  | .presence c => halfBytes c

/-- Arbitration field, length and payload: the bits the check is taken over (R199). -/
def checkedBits (kind station length : Nat) (payload : List Byte) : List Bool :=
  bitsMsb 4 kind ++ bitsMsb 4 station ++ bitsMsb 9 length ++ bitsOfBytes payload

/-- Stuffing (R85): after six equal bits one bit of the opposite value. `last` and `run` are the value and length of the
run so far. -/
def stuffFrom (last : Bool) (run : Nat) : List Bool → List Bool
  | [] => []
  | b :: bits =>
    if b = last then
      if run = 5 then b :: (!b) :: stuffFrom (!b) 1 bits else b :: stuffFrom b (run + 1) bits
    else b :: stuffFrom b 1 bits

/-- The bits with stuffing inserted; the first bit begins the first run (R85). -/
def stuff : List Bool → List Bool
  | [] => []
  | b :: bits => b :: stuffFrom b 1 bits

/-- The bits a sender drives for a frame, from start bit to end field (R84); true is recessive. -/
def wireBits (f : TieFrame) : List Bool :=
  let payload := payloadBytes f.body
  let checked := checkedBits (kindCode f.body).val f.sender.val payload.length payload
  stuff (false :: checked ++ bitsMsb 16 (crcOfBits checked).toNat) ++ [true, true, true, true]

/-- The payload byte at a position, as a number; none beyond the end. -/
def byteAt (payload : List Byte) (i : Nat) : Option Nat := payload[i]?.map BitVec.toNat

/-- Whether the length is the one R200 gives a SNAPSHOT with the counts in its payload (R201). -/
def snapshotLengthGood (length : Nat) (payload : List Byte) : Bool :=
  match byteAt payload 6 with
  | none => false
  | some n =>
    match byteAt payload (7 + 13 * n) with
    | none => false
    | some w =>
      match byteAt payload (7 + 13 * n + 1 + 3 * w) with
      | none => false
      | some q => n ≤ 16 && w ≤ 32 && q ≤ 32 && length == 7 + 13 * n + 1 + 3 * w + 1 + 3 * q + 2

/-- Whether the length is the one R200 gives a RESYNC with the count in its payload (R201). -/
def resyncLengthGood (length : Nat) (payload : List Byte) : Bool :=
  match byteAt payload 14 with
  | none => false
  | some m => m ≤ 8 && length == 15 + 3 * m

/-- Whether the length is right for the kind; false for kinds 13 to 15 (R90, R201). -/
def lengthGood (kind : Fin 16) (length : Nat) (payload : List Byte) : Bool :=
  match kind.val with
  | 0 => length == 1
  | 1 => length == 0
  | 2 => snapshotLengthGood length payload
  | 3 => length == 3
  | 4 => length == 2
  | 5 => resyncLengthGood length payload
  | 6 => length == 0
  | 7 => length == 1
  | 8 => length == 1
  | 9 => length == 1
  | 10 => length == 3
  | 11 => length == 3
  | 12 => length == 2
  | _ => false

/-- Whether a received frame is good at its veto slot (R90). -/
def frameGood (f : RawFrame) : Bool :=
  lengthGood f.kind f.length.val f.payload
    && f.check == crcOfBits (checkedBits f.kind.val f.station.val f.length.val f.payload)

/-- A frame as a receiver reads it when no bit is damaged (R84). -/
def rawOf (f : TieFrame) : RawFrame :=
  let payload := payloadBytes f.body
  let len := payload.length % 512
  { kind := kindCode f.body, station := f.sender, length := Fin.ofNat 512 payload.length, payload := payload,
    check := crcOfBits (checkedBits (kindCode f.body).val f.sender.val len payload) }

/-! ## Bit times and reading (R81, R82, R85, R90) -/

/-- The tie clocks of one bit at a bit-rate code (R81). -/
def bitClocks (code : Nat) : Nat := 48 * 2 ^ code

/-- The tie clocks after the start of a bit at which it is sampled (R82). -/
def sampleClocks (code : Nat) : List Nat := [20 * 2 ^ code, 24 * 2 ^ code, 28 * 2 ^ code]

/-- The value of a bit: that of at least two of its three samples (R82). -/
def sampledBit (a b c : Bool) : Bool := (a && b) || (a && c) || (b && c)

/-- The bits with stuff bits removed; none at a seventh equal bit, a format error (R85). `last` and `run` are the value and
length of the run so far. -/
def unstuffFrom (last : Bool) (run : Nat) : List Bool → Option (List Bool)
  | [] => some []
  | b :: bits =>
    if run = 6 then if b = last then none else unstuffFrom b 1 bits
    else (unstuffFrom b (if b = last then run + 1 else 1) bits).map (b :: ·)

/-- The bits of the stuffing span, from the start bit, with stuff bits removed (R85). -/
def unstuff : List Bool → Option (List Bool)
  | [] => some []
  | b :: bits => (unstuffFrom b 1 bits).map (b :: ·)

/-- The number that bits spell, most significant bit first. -/
def natOfBits (bits : List Bool) : Nat := bits.foldl (fun n b => 2 * n + b.toNat) 0

/-- As many bytes as asked for, from bits. -/
def bytesOfBits : Nat → List Bool → List Byte
  | 0, _ => []
  | n + 1, bits => BitVec.ofNat 8 (natOfBits (bits.take 8)) :: bytesOfBits n (bits.drop 8)

/-- What a receiver reads from the bits of a frame up to its veto slot (R84, R90); none at a format error. -/
def readFrame (span : List Bool) : Option RawFrame :=
  (unstuff span).map fun bits =>
    let fields := bits.drop 1
    let length := natOfBits ((fields.drop 8).take 9)
    let rest := fields.drop 17
    { kind := Fin.ofNat 16 (natOfBits (fields.take 4))
      station := Fin.ofNat 16 (natOfBits ((fields.drop 4).take 4))
      length := Fin.ofNat 512 length
      payload := bytesOfBits length rest
      check := BitVec.ofNat 16 (natOfBits ((rest.drop (8 * length)).take 16)) }

end Sys2Proof.Machine
end

