-- ==== Sys2Proof/Machine/Account.lean ====
section
/-!
DEFINITION. The account unit as functions of the replica, the accepted frame and the sealed settings with their digest
(R1): fit and oversize (R15 to R17), admission passes (R18, R19), what each frame kind does to the replica (R24 to R38,
R55, R69, R77, R79, R147, R152), snapshots (R21, R60, R202), standings and reports (R9, R40 to R43).
-/
namespace Sys2Proof.Machine

/-! ## What the account unit answers -/

/-- Why a claim is denied (R25). -/
inductive Denial where
  | shedLevel | oversize | duplicate | listFull | notMember
deriving DecidableEq, Repr

/-- The outcome of a claim (R40, R41). -/
inductive ClaimOutcome where
  | admitted | waiting | denied (cause : Denial)
deriving DecidableEq, Repr

/-- The kind of an own outlet frame (R40). -/
inductive OutletFrame where
  | claim | cancel | started | release
deriving DecidableEq, Repr

/-- The cause in a report (R42, R62, R69, R147); `removed` stands where no rule names a cause (log entry 14). -/
inductive ReportCause where
  | none | claim | pass | advanced | cancelled | started | released | shed | resync | snapshot | removed
deriving DecidableEq, Repr

/-- One report to the outlet sequencer (R40). -/
structure OutletReport where
  outlet : OutletNum
  standing : Standing
  cause : ReportCause
  own : Option OutletFrame
  outcome : Option ClaimOutcome
deriving DecidableEq, Repr

/-- What the account unit makes of an accepted frame: the replica after the admission pass, whether FOREIGN_FRAME is
recorded, and the outcome of a claim. -/
structure AccountChange where
  replica : Replica
  foreign : Bool := false
  outcome : Option ClaimOutcome := none
deriving DecidableEq, Repr

/-! ## Bins, members, entries -/

/-- The row total (R3). -/
def rowTotal (row : Row) : Nat := (row.toList.map Fin.val).sum

/-- The total (R4). -/
def accountTotal (r : Replica) : Nat := (r.rows.toList.map rowTotal).sum

/-- Whether a station is in a member set (R2). -/
def inSet (m : Half) (n : StationNum) : Bool := m.getLsbD n.val

/-- The set of one station. -/
def soloSet (n : StationNum) : Half := 1#16 <<< n.val

/-- A set with a station added. -/
def addMember (m : Half) (n : StationNum) : Half := m ||| soloSet n

/-- A set with a station removed. -/
def removeMember (m : Half) (n : StationNum) : Half := m &&& ~~~soloSet n

/-- Whether an entry is that of a pair (R5). -/
def isPair (s : StationNum) (o : OutletNum) (e : Entry) : Bool := e.station == s && e.outlet == o

/-- A list without the entry of a pair; the entries behind close up (R6, R7). -/
def removePair (s : StationNum) (o : OutletNum) (l : List Entry) : List Entry := l.filter fun e => !isPair s o e

/-- A list without the entries of a station. -/
def removeStation (s : StationNum) (l : List Entry) : List Entry := l.filter fun e => e.station != s

/-- A bin of the budget table (R3). -/
def binOf (r : Replica) (s : StationNum) (p : Prio) : Units := r.rows[s][p]

/-- The budget table with one bin set. -/
def setBin (r : Replica) (s : StationNum) (p : Prio) (u : Units) : Replica :=
  { r with rows := r.rows.set s (r.rows[s].set p u) }

/-- The budget table with one row set. -/
def setRow (r : Replica) (s : StationNum) (row : Row) : Replica := { r with rows := r.rows.set s row }

/-- Units taken out of a bin with the floor at 0, and whether the floor was reached (R38). -/
def subtractUnits (r : Replica) (s : StationNum) (p : Prio) (w : Units) : Replica × Bool :=
  (setBin r s p (toUnits ((binOf r s p).val - w.val)), (binOf r s p).val < w.val)

/-! ## Fit, admission and the pass -/

/-- The limit for a priority (R15). -/
def limit (c : SharedSettings) (p : Prio) : Nat :=
  if p.val < c.essential.val then c.capacity.val - c.headroom.val else c.capacity.val

/-- Whether a weight at a priority is oversize (R16). -/
def oversize (c : SharedSettings) (p : Prio) (w : Units) : Bool :=
  limit c p < w.val || (effectiveCap c).val < w.val

/-- Whether an entry fits now (R17). -/
def fits (c : SharedSettings) (r : Replica) (e : Entry) : Bool :=
  accountTotal r + e.weight.val ≤ limit c e.priority
    && rowTotal r.rows[e.station] + e.weight.val ≤ (effectiveCap c).val
    && r.start.length < 32

/-- Admission (R7): the entry joins the start queue and its units enter its bin. -/
def admitEntry (r : Replica) (e : Entry) : Replica :=
  let r' := setBin r e.station e.priority (toUnits ((binOf r e.station e.priority).val + e.weight.val))
  { r' with start := r.start ++ [e] }

/-- The pass in STRICT order (R18): admits heads while they fit. Answers what still waits and the replica. -/
def passStrict (c : SharedSettings) : List Entry → Replica → List Entry × Replica
  | [], r => ([], r)
  | e :: rest, r => if fits c r e then passStrict c rest (admitEntry r e) else (e :: rest, r)

/-- The pass in FIT order (R19): one scan from the oldest. -/
def passFit (c : SharedSettings) : List Entry → Replica → List Entry × Replica
  | [], r => ([], r)
  | e :: rest, r =>
    if fits c r e then passFit c rest (admitEntry r e)
    else
      let (kept, r') := passFit c rest r
      (e :: kept, r')

/-- The admission pass (R18, R19). -/
def admissionPass (c : SharedSettings) (r : Replica) : Replica :=
  let (kept, r') := match c.order with
    | .strict => passStrict c r.wait r
    | .fit => passFit c r.wait r
  { r' with wait := kept }

/-! ## The outlet frames -/

/-- An outlet number of a payload byte (R24). -/
def outletOf (b : Byte) : Option OutletNum := if h : b.toNat < 8 then some ⟨b.toNat, h⟩ else none

/-- A station number of a payload byte (R202). -/
def stationOf (b : Byte) : Option StationNum := if h : b.toNat < 16 then some ⟨b.toNat, h⟩ else none

/-- A priority of a 4-bit field (R24). -/
def priorityOf (p : Fin 16) : Option Prio := if h : p.val < 8 then some ⟨p.val, h⟩ else none

/-- The tests of R25 in order. -/
def claimOutcome (c : SharedSettings) (r : Replica) (e : Entry) : ClaimOutcome :=
  if !inSet r.members e.station then .denied .notMember
  else if e.priority.val < r.shedLevel.val then .denied .shedLevel
  else if oversize c e.priority e.weight then .denied .oversize
  else if (r.wait ++ r.start).any (isPair e.station e.outlet) then .denied .duplicate
  else if fits c r e && (c.order == .fit || r.wait.isEmpty) then .admitted
  else if r.wait.length < 32 then .waiting
  else .denied .listFull

/-- A CLAIM on the replica, before the pass (R25 to R32). -/
def applyClaim (c : SharedSettings) (r : Replica) (e : Entry) : AccountChange :=
  let outcome := claimOutcome c r e
  match outcome with
  | .admitted => { replica := admitEntry r e, outcome := some outcome }
  | .waiting => { replica := { r with wait := r.wait ++ [e] }, outcome := some outcome }
  | .denied cause => { replica := r, foreign := cause == .notMember, outcome := some outcome }

/-- A CANCEL on the replica, before the pass (R33, R34, R38). -/
def applyCancel (r : Replica) (s : StationNum) (o : OutletNum) : AccountChange :=
  if r.wait.any (isPair s o) then { replica := { r with wait := removePair s o r.wait } }
  else
    match r.start.find? (isPair s o) with
    | some e =>
      let (r', floored) := subtractUnits { r with start := removePair s o r.start } s e.priority e.weight
      { replica := r', foreign := floored }
    | none => { replica := r }

/-- A STARTED on the replica, before the pass (R35). -/
def applyStarted (r : Replica) (s : StationNum) (o : OutletNum) : AccountChange :=
  { replica := { r with start := removePair s o r.start } }

/-- A RELEASE on the replica, before the pass (R36 to R38). -/
def applyRelease (r : Replica) (s : StationNum) (o : OutletNum) (p : Prio) (w : Units) : AccountChange :=
  let (r', floored) := subtractUnits { r with start := removePair s o r.start } s p w
  { replica := r', foreign := floored }

/-! ## Membership, resynchronisation and shedding -/

/-- A station removed from the account (R77). -/
def removeFromAccount (r : Replica) (n : StationNum) : Replica :=
  { setRow r n Row.zero with
    members := removeMember r.members n, wait := removeStation n r.wait, start := removeStation n r.start }

/-- An equal-digest JOIN on the replica, before the pass (R55). -/
def applyJoin (r : Replica) (n : StationNum) : Replica :=
  { setRow r n Row.zero with
    members := addMember r.members n, wait := removeStation n r.wait, start := removeStation n r.start }

/-- A row with its bins below a level at 0 (R69, R147). -/
def zeroBelow (level : Level) (row : Row) : Row := Vector.ofFn fun p => if p.val < level.val then 0 else row[p]

/-- Whether a declared entry is one that no correctly working station sends (R202). -/
def declaredFaulty (s : StationNum) (seen : List OutletNum) (e : WireEntry) : Bool :=
  e.weight == 0 || e.pad != 0 || e.station != s || seen.contains e.outlet

/-- The declared entries of a RESYNC placed in the order carried (step 4 of R69, R202). `seen` holds the outlets already
declared. -/
def placeDeclared (s : StationNum) : List OutletNum → List WireEntry → AccountChange → AccountChange
  | _, [], a => a
  | seen, e :: rest, a =>
    let a' : AccountChange :=
      if declaredFaulty s seen e then { a with foreign := true }
      else if e.priority.val < a.replica.shedLevel.val then a
      else if a.replica.start.length < 32 then
        { a with replica := { a.replica with start := a.replica.start ++ [⟨s, e.outlet, e.priority, e.weight⟩] } }
      else
        let (r, floored) := subtractUnits a.replica s e.priority e.weight
        { a with replica := r, foreign := a.foreign || floored }
    placeDeclared s (e.outlet :: seen) rest a'

/-- An equal-digest RESYNC on the replica, before the pass (steps 1 to 4 of R69). -/
def applyResync (r : Replica) (s : StationNum) (content : ResyncContent) : AccountChange :=
  let r' := { setRow r s (zeroBelow r.shedLevel content.bins) with
    members := addMember r.members s, wait := removeStation s r.wait, start := removeStation s r.start }
  placeDeclared s [] content.entries { replica := r' }

/-- The replica shed to a level at or above the present one, before the pass (steps 1 to 3 of R147). -/
def applyShed (r : Replica) (level : Level) : Replica :=
  let agreed := if r.shedLevel.val < level.val then level else r.shedLevel
  { r with
    shedLevel := agreed
    rows := Vector.ofFn fun n => zeroBelow agreed r.rows[n]
    wait := r.wait.filter fun e => agreed.val ≤ e.priority.val
    start := r.start.filter fun e => agreed.val ≤ e.priority.val }

/-- The level of a SHED that is in range (R147). -/
def shedLevelOf (b : Byte) : Option Level :=
  if h : 1 ≤ b.toNat ∧ b.toNat ≤ 8 then some ⟨b.toNat, by omega⟩ else none

/-- An outlet frame that carries a value no station sends is ignored; the pass still runs (R24). -/
def ignoredFrame (c : SharedSettings) (r : Replica) (outcome : Option ClaimOutcome) : AccountChange :=
  { replica := admissionPass c r, foreign := true, outcome := outcome }

/-- The admission pass after a change (R18). -/
def thenPass (c : SharedSettings) (a : AccountChange) : AccountChange :=
  { a with replica := admissionPass c a.replica }

/-- What the account unit makes of an accepted frame, pass included (R1, R18, R23): a function of the replica, the frame
and the sealed settings with their digest alone. A RESYNC of another digest is not applied, so that step 4 of R69 is not reached
and its faulty declared entries record no FOREIGN_FRAME: the model's reading of R202 (log entry 33). Faulty content of a SNAPSHOT
with a valid target records none either: the loading station's DIVERGENCE is all that R202 is read to give it (log entry 53). -/
def accountChange (c : SharedSettings) (digest : Option Half) (r : Replica) (f : TieFrame) : AccountChange :=
  match f.body with
  | .shed b =>
    match shedLevelOf b with
    | some level => thenPass c { replica := applyShed r level }
    | none => { replica := r, foreign := true }
  | .restore =>
    if inSet r.members f.sender then thenPass c { replica := { r with shedLevel := 0 } }
    else { replica := r, foreign := true }
  | .join d => if digest = some d then thenPass c { replica := applyJoin r f.sender } else { replica := r }
  | .resync content =>
    if digest = some content.digest then thenPass c (applyResync r f.sender content) else { replica := r }
  | .leave =>
    if inSet r.members f.sender then thenPass c { replica := removeFromAccount r f.sender } else { replica := r }
  | .forget b =>
    match stationOf b with
    | none => { replica := r, foreign := true }
    | some t =>
      if inSet r.members t then thenPass c { replica := removeFromAccount r t } else { replica := r }
  | .started b =>
    match outletOf b with
    | none => ignoredFrame c r none
    | some o => thenPass c (applyStarted r f.sender o)
  | .cancel b =>
    match outletOf b with
    | none => ignoredFrame c r none
    | some o => thenPass c (applyCancel r f.sender o)
  | .release b p w =>
    match outletOf b, priorityOf p with
    | some o, some p' =>
      if w = 0 then ignoredFrame c r none else thenPass c (applyRelease r f.sender o p' w)
    | _, _ => ignoredFrame c r none
  | .claim b p w =>
    match outletOf b, priorityOf p with
    | some o, some p' =>
      if w = 0 then ignoredFrame c r (some (.denied .oversize))
      else thenPass c (applyClaim c r ⟨f.sender, o, p', w⟩)
    | _, _ => ignoredFrame c r none
  | .snapshot t _ => { replica := r, foreign := (stationOf t).isNone }
  | .refuse t _ => { replica := r, foreign := (stationOf t).isNone }
  | .presence .. => { replica := r }

/-! ## Snapshots -/

/-- An entry of the account in the form of a frame. -/
def Entry.toWire (e : Entry) : WireEntry := ⟨e.station, e.outlet, e.priority, e.weight, 0⟩

/-- An entry of a frame as an entry of the account. -/
def wireToEntry (e : WireEntry) : Entry := ⟨e.station, e.outlet, e.priority, e.weight⟩

/-- What a SNAPSHOT carries when it is composed (R60). -/
def snapshotOf (digest check : Half) (r : Replica) : SnapshotContent where
  digest := digest
  shedLevel := BitVec.ofNat 8 r.shedLevel.val
  members := r.members
  rows := (allStations.filter fun n => rowTotal r.rows[n] != 0).map fun n => ⟨BitVec.ofNat 8 n.val, r.rows[n]⟩
  wait := r.wait.map Entry.toWire
  start := r.start.map Entry.toWire
  check := check

/-- The row a SNAPSHOT gives a station: the carried one, or zeros (R21). -/
def carriedRow (rows : List WireRow) (n : StationNum) : Row :=
  match rows.find? fun w => w.station.toNat == n.val with
  | some w => w.bins
  | none => Row.zero

/-- The replica a SNAPSHOT stands for (R21). -/
def replicaOf (content : SnapshotContent) : Replica where
  shedLevel := toLevel content.shedLevel.toNat
  members := content.members
  rows := Vector.ofFn fun n => carriedRow content.rows n
  wait := content.wait.map wireToEntry
  start := content.start.map wireToEntry

/-- Whether numbers rise strictly. -/
def strictlyRising : List Nat → Bool
  | a :: b :: rest => decide (a < b) && strictlyRising (b :: rest)
  | _ => true

/-- Whether no pair stands twice in a list of entries (R5). -/
def pairsDistinct : List Entry → Bool
  | [] => true
  | e :: rest => !rest.any (isPair e.station e.outlet) && pairsDistinct rest

/-- Whether an entry may stand in a snapshot with that member set and shed level (R202). -/
def snapshotEntryGood (content : SnapshotContent) (e : WireEntry) : Bool :=
  e.weight != 0 && e.pad == 0 && inSet content.members e.station && content.shedLevel.toNat ≤ e.priority.val

/-- Whether a row may stand in a snapshot with that member set and shed level (R202). -/
def snapshotRowGood (content : SnapshotContent) (w : WireRow) : Bool :=
  match stationOf w.station with
  | none => false
  | some n =>
    (rowTotal w.bins == 0 || inSet content.members n)
      && allOutlets.all fun p => content.shedLevel.toNat ≤ p.val || w.bins[p] == 0

/-- Whether the content of a SNAPSHOT has none of the faults of R202. -/
def snapshotContentGood (content : SnapshotContent) : Bool :=
  content.shedLevel.toNat ≤ 8
    && strictlyRising (content.rows.map fun w => w.station.toNat)
    && content.rows.all (snapshotRowGood content)
    && (content.wait ++ content.start).all (snapshotEntryGood content)
    && pairsDistinct ((content.wait ++ content.start).map wireToEntry)

/-- Check 3 of R62: the content is free of the faults of R202 and its computed state check is the carried one. -/
def snapshotSound (content : SnapshotContent) : Bool :=
  snapshotContentGood content && checkOf (replicaOf content) == content.check

/-! ## Standings and reports -/

/-- The standing of an outlet (R9): slot holders are the first K entries of the start queue (R8). -/
def standingOf (k : Nat) (r : Replica) (s : StationNum) (o : OutletNum) : Standing :=
  if (r.start.take k).any (isPair s o) then .slot
  else if r.start.any (isPair s o) then .admitted
  else if r.wait.any (isPair s o) then .listed
  else .absent

/-- The own outlet frame a frame is, and its outlet, at the station of a number (R40). -/
def ownOutletFrame (number : StationNum) (f : TieFrame) : Option (OutletNum × OutletFrame) :=
  if f.sender != number then none
  else
    match f.body with
    | .started b => (outletOf b).map fun o => (o, .started)
    | .cancel b => (outletOf b).map fun o => (o, .cancel)
    | .release b p _ => if p.val < 8 then (outletOf b).map fun o => (o, .release) else none
    | .claim b p _ => if p.val < 8 then (outletOf b).map fun o => (o, .claim) else none
    | _ => none

/-- The cause of a removal by a frame kind (R42, R69, R147). -/
def removalCause : FrameBody → ReportCause
  | .cancel .. => .cancelled
  | .started .. => .started
  | .release .. => .released
  | .shed .. => .shed
  | .resync .. => .resync
  | .snapshot .. => .snapshot
  | _ => .removed

/-- The cause of a change of standing (R42; R69 for own outlets of the declaring station; R62 at a snapshot load). -/
def reportCause (number : StationNum) (f : TieFrame) (before after : Standing) : ReportCause :=
  if before = after then .none
  else
    match f.body with
    | .snapshot .. => .snapshot
    | .resync .. => if f.sender = number then .resync else byStanding f.body before after
    | body => byStanding body before after
where
  /-- The table of R42. -/
  byStanding (body : FrameBody) : Standing → Standing → ReportCause
    | _, .absent => removalCause body
    | .absent, _ => .claim
    | .listed, _ => .pass
    | _, .slot => .advanced
    | _, _ => removalCause body

/-- The report for one own outlet, if it meets a condition of R40. `sent` says that this station sent the frame. -/
def reportFor (k : Nat) (number : StationNum) (sent : Bool) (f : TieFrame) (before : Replica) (change : AccountChange)
    (o : OutletNum) : Option OutletReport :=
  let old := standingOf k before number o
  let new := standingOf k change.replica number o
  let own := if sent then (ownOutletFrame number f).bind fun (o', kind) => if o' = o then some kind else none else none
  if old = new && own.isNone then none
  else
    some { outlet := o, standing := new, cause := reportCause number f old new, own := own,
           outcome := if own = some .claim then change.outcome else none }

/-- The reports of one change, in outlet order (R9, R40). -/
def reportsOf (k : Nat) (number : StationNum) (sent : Bool) (f : TieFrame) (before : Replica) (change : AccountChange) :
    List OutletReport :=
  allOutlets.filterMap (reportFor k number sent f before change)

end Sys2Proof.Machine
end

