-- ==== Sys2Proof/Machine/Flags.lean ====
section
/-!
DEFINITION. The report unit and every flag computation: events and overflow (R182 to R185), recording a fault, mask,
severity and pointer (R186 to R190), attention (R191), comparators and filter times (R155 to R159, R163, R164).
-/
namespace Sys2Proof.Machine

/-! ## Attention -/

/-- The attention line as its sources give it (R191). -/
def attentionOf (events : List EventRecord) (status mask : Half) : Bool :=
  !events.isEmpty || (status &&& ~~~mask) != 0#16

/-- The attention line evaluated again (R191). -/
def refreshAttention (s : State) : State :=
  { s with report.attention := attentionOf s.report.events s.report.status s.settings.station.mask }

/-! ## Faults -/

/-- The bit of a fault in a fault set (R203). -/
def faultBit (f : FaultName) : Half := 1#16 <<< f.num.val

/-- Whether a fault set names a fault. -/
def namesFault (set : Half) (f : FaultName) : Bool := set.getLsbD f.num.val

/-- Whether a fault is fatal: three are held fatal and one advisory whatever is written (R188). -/
def isFatal (severity : Half) (f : FaultName) : Bool :=
  match f with
  | .duplicateNumber | .clockUnlock | .forgotten => true
  | .isolationTimeout => false
  | _ => namesFault severity f

/-- The status, pointer and escalation of a recording (R186 to R189), without its FAULT record: the status sets, a pointer that
is clear takes the fault if it is unmasked. -/
def markFault (f : FaultName) (s : State) : State :=
  refreshAttention { s with
    report.status := s.report.status ||| faultBit f
    report.first := if s.report.first.isNone && !namesFault s.settings.station.mask f then some f else s.report.first
    report.escalate := s.report.escalate || isFatal s.settings.station.severity f }

/-! ## Events -/

/-- The bit of a record's kind in the event enable set (R183, R203). -/
def eventKind : EventRecord → Nat
  | .outlet .. => 0 | .station .. => 1 | .peer .. => 2 | .shedLevel .. => 3 | .fault .. => 4

/-- A dropped post: the overflow flag sets and EVENT_OVERFLOW is recorded, whose own record is dropped with no further
effect (R184). -/
def dropPost (s : State) : State := markFault .eventOverflow { s with report.overflow := true }

/-- A post of a record (R182 to R184): queued, or dropped where the queue is full. -/
def postEvent (e : EventRecord) (s : State) : State :=
  if !s.settings.station.enable.getLsbD (eventKind e) then s
  else if s.report.events.length < 32 then
    refreshAttention { s with report.events := s.report.events ++ [e] }
  else dropPost s

/-- Recording a fault (R186): in every station state except DORMANT. The pointer is set before the FAULT record is posted, so
that a record that finds the queue full leaves the pointer to this fault and not to EVENT_OVERFLOW: R186 makes recording one
act and names the post first; the order is the model's choice (log entry 37). -/
def recordFault (f : FaultName) (s : State) : State :=
  if s.membership.station = .dormant then s else postEvent (.fault f) (markFault f s)

/-- Recording a fault where a condition holds. -/
def recordWhen (c : Bool) (f : FaultName) (s : State) : State := if c then recordFault f s else s

/-- CLEAR_FAULTS on the report unit (R190). -/
def clearFaults (set : Half) (s : State) : State :=
  refreshAttention { s with
    report.status := s.report.status &&& ~~~set
    report.first := s.report.first.filter fun f => !namesFault set f }

/-- READ_EVENT on the report unit (R185): the record at the head leaves and the overflow flag clears. -/
def takeEvent (s : State) : State :=
  refreshAttention { s with report.events := s.report.events.tail, report.overflow := false }

/-! ## Comparators and filters -/

/-- The rail threshold of a code in thousandths of the nominal level: (60 + 2n) per cent (R155). -/
def railThreshold (code : Fin 16) : Nat := 600 + 20 * code.val

/-- Whether the rail comparator reports sag (R156). -/
def railLow (s : State) : Bool := s.pins.railSense < railThreshold s.settings.station.railThreshold

/-- The reserve threshold in thousandths of the nominal level (R163). -/
def reserveThreshold : ReserveThreshold → Nat
  | .standard => 850
  | .extended => 750

/-- Whether the reserve comparator reports a low cell (R164). -/
def reserveLow (s : State) : Bool := s.pins.reserveSense < reserveThreshold s.settings.station.reserveThreshold

/-- The rail filter time in force (R158). -/
def railFilterTime (s : State) : Nat :=
  if s.rail.inrush then s.settings.station.inrushFilter.val else s.settings.station.sagFilter.val

/-- The filter count after ticks with a low reading while the live flag is clear, held at 60 (R159): it rises up to the tick
at which it reaches the filter time and the flag sets, and stays there. -/
def countTicks (filter : Nat) (count : Fin 61) (ticks : Nat) : Fin 61 :=
  ⟨min (count.val + min ticks (max 1 (filter - count.val))) 60, by omega⟩

/-- A monitor after a reading that is not low (R159): flag and count clear. -/
def Monitor.clearLive (m : Monitor) : Monitor := { m with live := false, count := 0 }

/-- A monitor whose live flag sets, and its sticky flag with it (R162). -/
def Monitor.rise (m : Monitor) : Monitor := { m with live := true, sticky := true }

/-- Whether both live flags are clear (R165). -/
def liveFlagsClear (s : State) : Bool := !s.rail.live && !s.reserve.live

/-! ## Station states -/

/-- Whether the replica follows accepted frames (R20); the shed unit is active in the same states (R138). -/
def StationState.follows : StationState → Bool
  | .synced | .resyncing | .mute | .leaving => true
  | _ => false

/-- Whether a fatal fault isolates a station in this state (R188). -/
def StationState.isolates : StationState → Bool
  | .joining | .synced | .resyncing | .mute | .leaving => true
  | _ => false

/-- Whether the replica follows accepted frames now. -/
def following (s : State) : Bool := s.membership.station.follows

/-- The local level: the shed level plus the local shed count (R142). -/
def localLevel (s : State) : Nat := s.replica.shedLevel.val + s.shed.localCount.val

end Sys2Proof.Machine
end

