-- ==== Sys2Proof/Machine/Ops.lean ====
section
/-!
DEFINITION. The named operations on the state that the units share: the replica with its state check, outlet records,
the send queue with its places, withdrawals and drain set (R101 to R105, R116, R177), running down a timer.
-/
namespace Sys2Proof.Machine

/-! ## Both outcomes of an execution (R179) -/

/-- A station as a state of its own, with no request in execution and no commands waiting. -/
def Station.alone (x : Station) : State := { toStation := x, unexecuted := none, pending := [] }

/-- What a row or a tick does: it acts on the station and, while a request executes, on the station without that request's
effect, each as if it were the only one (R179, log entry 7). -/
def onBoth (f : State → State) (s : State) : State :=
  { f s with unexecuted := s.unexecuted.map fun x => (f x.alone).toStation }

/-- The result of a row that is neither the port's nor a reset's. -/
def acts (f : State → State) (s : State) : Result := .next (onBoth f s)

/-- What has no effect during a reset (log entry 4). -/
def outsideReset (f : State → State) (s : State) : State := if s.resetting.isSome then s else f s

/-- The result of such a row that has no effect during a reset (log entry 4). -/
def actsOutsideReset (f : State → State) (s : State) : Result := acts (outsideReset f) s

/-- Whether the frame on the bus is there by the effect of the request in execution alone: this station sends it, and without the
effect the station sends none (log entry 7). -/
def sentByEffect (s : State) (x : Station) : Bool := s.tie.tx.isSome && x.tie.tx.isNone

/-- The result of a row of the tie bus: it acts as the others do, but a frame that is there by the effect alone does not concern
the station without that effect (R179, log entry 7). -/
def actsOnBus (f : State → State) (s : State) : Result :=
  .next { f s with
    unexecuted := s.unexecuted.map fun x => if sentByEffect s x then x else (f x.alone).toStation }

/-! ## The replica -/

/-- The replica set, and the state check with it (R14). -/
def setReplica (r : Replica) (s : State) : State := { s with replica := r, check := checkOf r }

/-- The inrush slots in force (R8). -/
def slotCount (s : State) : Nat := s.settings.shared.slots.val

/-! ## Outlet records -/

/-- One outlet record changed. -/
def setOutlet (o : OutletNum) (f : Outlet → Outlet) (s : State) : State :=
  { s with outlets := s.outlets.set o (f s.outlets[o]) }

/-- Whether an outlet's priority is below a level. -/
def belowLevel (level : Nat) (o : OutletNum) (s : State) : Bool := s.outlets[o].config.priority.val < level

/-- A treatment of each own outlet in outlet order: R115 gives it for one acceptance or one report (where an acceptance
has several passes, for each of them: log entry 50), R135 and R143 for theirs; for the OUTLET records of reserve-low and of
an entry to ISOLATED it is the model's choice (log entry 49). -/
def forOutlets (f : OutletNum → State → State) (s : State) : State := allOutlets.foldl (fun t o => f o t) s

/-- A treatment of each own outlet that meets a condition when its turn comes, in outlet order. -/
def forOutletsWhere (c : OutletNum → State → Bool) (f : OutletNum → State → State) (s : State) : State :=
  forOutlets (fun o t => if c o t then f o t else t) s

/-- Whether an own outlet is in SOFT (R67). -/
def anySoft (s : State) : Bool := allOutlets.any fun o => s.outlets[o].state == .soft

/-! ## The tie bus -/

/-- Whether accepted frames are delivered (R80). -/
def delivers (s : State) : Bool := s.tie.mode == .active || s.tie.mode == .listening

/-- Whether the station can be receiving a frame: it checks frames and does not send one (R80, R86). -/
def canReceive (s : State) : Bool := delivers s && s.tie.tx.isNone

/-! ## The send queue -/

/-- The places of the send queue by class (R101). -/
inductive Place where
  | outlet (o : OutletNum) | membership | presence | shed | snapshot
deriving DecidableEq, Repr

/-- The place a frame takes (R101). -/
def placeOf : QueueItem → Place
  | .shed .. | .restore => .shed
  | .snapshot .. | .refuse .. => .snapshot
  | .join .. | .resync .. | .leave | .forget .. => .membership
  | .started o | .cancel o | .release o .. | .claim o .. => .outlet o
  | .presence => .presence

/-- How many frames a place class can hold: two for an outlet, else one (R101). -/
def placeSize : Place → Nat
  | .outlet _ => 2
  | _ => 1

/-- How many posted frames stand in a place class. -/
def placeTaken (p : Place) (s : State) : Nat := s.tie.queue.countP fun q => placeOf q.item == p

/-- Whether a frame can be posted into a place class (R102). -/
def placeFree (p : Place) (s : State) : Bool := placeTaken p s < placeSize p

/-- A frame posted, refused without effect where its place is taken (R102). -/
def post (item : QueueItem) (s : State) : State :=
  if placeFree (placeOf item) s then
    { s with tie.queue := s.tie.queue ++ [{ seq := s.tie.nextSeq, item := item }], tie.nextSeq := s.tie.nextSeq + 1 }
  else s

/-- Whether a posted frame is in flight (R101). -/
def inFlight (s : State) (q : Posted) : Bool :=
  match s.tie.tx with
  | some t => t.seq == q.seq
  | none => false

/-- Whether a posted frame meets a condition. -/
def isPosted (c : QueueItem → Bool) (s : State) : Bool := s.tie.queue.any fun q => c q.item

/-- The frame that a due frame of an outlet is (R116). -/
def dueItem (o : OutletNum) (c : OutletConfig) : DueFrame → QueueItem
  | .cancel => .cancel o
  | .release => .release o c.priority c.weight

/-- A due frame posted once a place of its outlet is free (R116). -/
def postDue (o : OutletNum) (s : State) : State :=
  match s.outlets[o].due with
  | some d =>
    if placeFree (.outlet o) s then
      setOutlet o (fun x => { x with due := none }) (post (dueItem o s.outlets[o].config d) s)
    else s
  | none => s

/-- The frames that meet a condition leave the queue, accepted or withdrawn: the command port takes them out of its drain
set (R101, R177), and due frames take places that became free (R116). -/
def leaveQueue (gone : Posted → Bool) (s : State) : State :=
  let left := (s.tie.queue.filter gone).map Posted.seq
  let drain := s.port.drainSet.filter fun n => !left.contains n
  forOutlets postDue { s with
    tie.queue := s.tie.queue.filter fun q => !gone q
    port.drainSet := drain
    port.drained := drain.isEmpty }

/-- The frames not in flight that meet a condition are withdrawn (R105). -/
def withdraw (c : QueueItem → Bool) (s : State) : State := leaveQueue (fun q => c q.item && !inFlight s q) s

/-- The frame in flight is marked for withdrawal if it meets a condition (R105). -/
def markFlight (c : QueueItem → Bool) (s : State) : State :=
  { s with tie.queue := s.tie.queue.map fun q => if c q.item && inFlight s q then { q with marked := true } else q }

/-- The due frames of a kind cleared, where a condition on the outlet holds (R116). -/
def clearDue (c : OutletNum → DueFrame → Bool) (s : State) : State :=
  forOutlets (fun o => setOutlet o fun x => { x with due := x.due.filter fun d => !c o d }) s

/-- The queue emptied with no frame in flight left (R104): reset, REFUSED, ISOLATED, own LEAVE. -/
def emptyQueue (s : State) : State :=
  leaveQueue (fun _ => true) (clearDue (fun _ _ => true) { s with tie.tx := none })

/-- The queue emptied at an entry to CONFIG: a frame in flight is marked and finishes its attempt (R104). -/
def emptyQueueConfig (s : State) : State :=
  markFlight (fun _ => true) (withdraw (fun _ => true) (clearDue (fun _ _ => true) s))

/-- Whether a frame is a RELEASE, CANCEL or STARTED of an outlet that meets a condition (R62, R108, R109). -/
def isReleasing (c : OutletNum → Bool) : QueueItem → Bool
  | .started o | .cancel o | .release o .. => c o
  | _ => false

/-- Whether a frame is the CLAIM of an outlet. -/
def isClaimOf (o : OutletNum) : QueueItem → Bool
  | .claim o' .. => o' == o
  | _ => false

/-- Whether a frame is the CANCEL of an outlet. -/
def isCancelOf (o : OutletNum) : QueueItem → Bool
  | .cancel o' => o' == o
  | _ => false

/-- Whether a frame is the RELEASE of an outlet. -/
def isReleaseOf (o : OutletNum) : QueueItem → Bool
  | .release o' .. => o' == o
  | _ => false

/-- Whether a frame is the STARTED of an outlet. -/
def isStartedOf (o : OutletNum) : QueueItem → Bool
  | .started o' => o' == o
  | _ => false

/-- Whether a frame is a SHED. -/
def isShed : QueueItem → Bool
  | .shed _ => true
  | _ => false

/-- Whether a frame is a RESTORE. -/
def isRestore : QueueItem → Bool
  | .restore => true
  | _ => false

/-- Whether a frame is a PRESENCE. -/
def isPresence : QueueItem → Bool
  | .presence => true
  | _ => false

/-- Whether a frame is of the snapshot class. -/
def isSnapshotClass : QueueItem → Bool
  | .snapshot .. | .refuse .. => true
  | _ => false

/-- Whether a frame is of the membership class. -/
def isMembershipClass : QueueItem → Bool
  | .join .. | .resync .. | .leave | .forget .. => true
  | _ => false

/-! ## Timers -/

/-- A running timer one tick on (R110); at 0 it is due. -/
def runDown (t : Option Nat) : Option Nat := t.map (· - 1)

/-- Whether a timer is due. -/
def isDue (t : Option Nat) : Bool := t == some 0

end Sys2Proof.Machine
end

