-- ==== Sys2Proof/Machine/Sequencer.lean ====
section
/-!
DEFINITION. The outlet sequencer (chapter 5): reserve test, soft-start, settle, trip, stopping, turning off, and the
answers to reports of the account unit.
-/
namespace Sys2Proof.Machine

/-! ## States, events and frames of one outlet -/

/-- An OUTLET event with the outlet's present state (R115). -/
def outletEvent (o : OutletNum) (cause : OutletCause) (s : State) : State :=
  postEvent (.outlet o s.outlets[o].state cause) s

/-- An outlet enters a state; an OUTLET event is posted if the state changed (R115). -/
def enterOutlet (st : OutletState) (cause : OutletCause) (o : OutletNum) (s : State) : State :=
  if s.outlets[o].state = st then s
  else outletEvent o cause (setOutlet o (fun x => { x with state := st }) s)

/-- Every switch of an outlet opens, and the timers that were to close or open one stop (R112). -/
def openSwitches (o : OutletNum) (s : State) : State :=
  setOutlet o (fun x => { x with path := .allOpen, gap := none, settle := none, bleed := none }) s

/-- A reserve switch that is closed opens (R118, R119, R121). -/
def openReserve (o : OutletNum) (s : State) : State :=
  setOutlet o (fun x => if x.path = .reserve then { x with path := .allOpen } else x) s

/-- A frame posted, or kept due where both places of the outlet are taken (R116). -/
def postOrDue (o : OutletNum) (d : DueFrame) (s : State) : State :=
  if placeFree (.outlet o) s then post (dueItem o s.outlets[o].config d) s
  else setOutlet o (fun x => { x with due := some d }) s

/-- CANCEL posted or kept due. -/
def postCancel (o : OutletNum) (s : State) : State := postOrDue o .cancel s

/-- RELEASE posted or kept due, in the place of a STARTED that is not in flight (R106). -/
def postRelease (o : OutletNum) (s : State) : State := postOrDue o .release (withdraw (isStartedOf o) s)

/-- CLAIM posted with the sealed priority and weight (R117). -/
def postClaim (o : OutletNum) (s : State) : State :=
  post (.claim o s.outlets[o].config.priority s.outlets[o].config.weight) s

/-- Whether a CANCEL of an outlet is posted or due (R124). -/
def cancelOutstanding (o : OutletNum) (s : State) : Bool :=
  isPosted (isCancelOf o) s || s.outlets[o].due == some .cancel

/-- Whether a RELEASE of an outlet is posted or due (R132). -/
def releaseOutstanding (o : OutletNum) (s : State) : Bool :=
  isPosted (isReleaseOf o) s || s.outlets[o].due == some .release

/-- Whether an outlet's CLAIM is in flight (R118). -/
def claimInFlight (o : OutletNum) (s : State) : Bool :=
  s.tie.queue.any fun q => isClaimOf o q.item && inFlight s q

/-- A QUEUED outlet gives up its CLAIM: withdrawn, or answered by a CANCEL when it is in flight (R106, R118). -/
def giveUpClaim (o : OutletNum) (s : State) : State :=
  if claimInFlight o s then postCancel o (setOutlet o (fun x => { x with claimOutstanding := true }) s)
  else withdraw (isClaimOf o) s

/-! ## Trip (R129 to R131, R150) -/

/-- The trip input of an outlet. -/
def tripAsserted (o : OutletNum) (s : State) : Bool := s.pins.trip.getLsbD o.val

/-- The settle input of an outlet. -/
def settleAsserted (o : OutletNum) (s : State) : Bool := s.pins.settle.getLsbD o.val

/-- A STOPPING outlet whose bleed has ended and whose RELEASE is answered enters OFF (R132). -/
def endStopping (cause : OutletCause) (o : OutletNum) (s : State) : State :=
  if s.outlets[o].state = .stopping && s.outlets[o].path != .weak && !releaseOutstanding o s then
    enterOutlet .off cause o s
  else s

/-- A SOFT outlet on the weak path fails its start (R128, R129). -/
def failStart (fault : FaultName) (cause : OutletCause) (o : OutletNum) (s : State) : State :=
  enterOutlet .fault cause o (postCancel o (openSwitches o (recordFault fault s)))

/-- A trip of an outlet with a switch closed (R129 to R131, R150); with every switch open it is not seen. -/
def tripOutlet (o : OutletNum) (s : State) : State :=
  let x := s.outlets[o]
  match x.path, x.state with
  | .allOpen, _ => s
  | .weak, .soft => failStart .overcurrent .overcurrent o s
  | .full, .on =>
    enterOutlet .fault .overcurrent o (postRelease o (openSwitches o (recordFault .overcurrent s)))
  | .reserve, .queued =>
    enterOutlet .fault .overcurrent o (giveUpClaim o (openReserve o (recordFault .overcurrent s)))
  | .reserve, .waiting | .reserve, .admitted =>
    enterOutlet .fault .overcurrent o (postCancel o (openReserve o (recordFault .overcurrent s)))
  | .reserve, .shed => enterOutlet .fault .overcurrent o (openReserve o (recordFault .overcurrent s))
  | _, .stopping => endStopping .bleed o (openSwitches o (recordFault .overcurrent s))
  | _, .dropped | _, .shed => openSwitches o (recordFault .overcurrent s)
  | _, _ => s

/-! ## The reserve path (R113) -/

/-- The units of the own outlets on the reserve path. -/
def reserveSum (s : State) : Nat :=
  (s.outlets.toList.map fun x => if x.path = .reserve then x.config.weight.val else 0).sum

/-- Whether an outlet whose path is OPEN passes the reserve test. -/
def passesReserve (o : OutletNum) (s : State) : Bool :=
  s.outlets[o].path == .allOpen && s.outlets[o].config.reserveAllowed
    && reserveSum s + s.outlets[o].config.weight.val ≤ s.settings.station.reserveUnits.val && !s.reserve.live

/-- The reserve test, then what the transition posts, then the trip at the closing (R113, R129). -/
def testReserve (o : OutletNum) (posting : State → State) (s : State) : State :=
  if passesReserve o s then
    let t := posting (setOutlet o (fun x => { x with path := .reserve }) s)
    if tripAsserted o t then tripOutlet o t else t
  else posting s

/-- An outlet enters one of the four reserve states from one of them or OFF (R113). -/
def enterTested (st : OutletState) (cause : OutletCause) (o : OutletNum) (s : State) : State :=
  testReserve o id (enterOutlet st cause o s)

/-- An outlet enters QUEUED with the reserve test and posts CLAIM (R117, R126, R153). -/
def queueTested (cause : OutletCause) (o : OutletNum) (s : State) : State :=
  testReserve o (postClaim o) (enterOutlet .queued cause o s)

/-- An outlet in OFF or SHED is claimed (R117, R153); one whose weak switch is bleeding opens it and is not tested
(R150). -/
def claimOutlet (cause : OutletCause) (o : OutletNum) (s : State) : State :=
  if s.outlets[o].path = .weak then postClaim o (enterOutlet .queued cause o (openSwitches o s))
  else queueTested cause o s

/-! ## Soft-start and settle (R114, R125, R127) -/

/-- A SOFT outlet on the weak path settles (R127); a trip input asserted as the strong switch closes is a trip (R129). -/
def settleOutlet (o : OutletNum) (s : State) : State :=
  let t := setOutlet o (fun x => { x with path := .full, settle := none }) s
  let t := post (.started o) (enterOutlet .on .settled o t)
  if tripAsserted o t then tripOutlet o t else t

/-- The weak switch of a SOFT outlet closes (R125). A trip and a settle input already asserted act at that instant
(R127, R129), in an order the manual leaves open (log entry 3). -/
def closeWeak (o : OutletNum) (s : State) : State :=
  let t := setOutlet o (fun x => { x with path := .weak, gap := none, settle := some x.config.settleTimeout.val }) s
  if tripAsserted o t then
    if settleAsserted o t then
      let u := { t with freeCount := t.freeCount + 1 }
      if Config.tripFirst t.freeCount then tripOutlet o u else settleOutlet o u
    else tripOutlet o t
  else if settleAsserted o t then settleOutlet o t
  else t

/-- The soft-start of an outlet (R125): through the changeover gap from the reserve path (R114). -/
def softStart (o : OutletNum) (s : State) : State :=
  let t := enterOutlet .soft .slot o s
  if t.outlets[o].path = .reserve then setOutlet o (fun x => { x with path := .allOpen, gap := some 2 }) t
  else closeWeak o t

/-- At entry to SYNCED each ADMITTED outlet whose standing is SLOT starts, in outlet order (R135). -/
def startDeferred (s : State) : State :=
  forOutletsWhere (fun o t => t.outlets[o].state == .admitted && t.outlets[o].standing == .slot) softStart s

/-! ## Answers from the account (R122 to R126) -/

/-- A slot granted to an outlet: the start, deferred outside SYNCED (R122, R123). `otherwise` is what a deferral does. -/
def grantSlot (otherwise : OutletNum → State → State) (o : OutletNum) (s : State) : State :=
  if s.membership.station = .synced then softStart o s else otherwise o s

/-- The outlet cause of a denial (R115). -/
def denialCause : Denial → OutletCause
  | .shedLevel => .shedLevel | .oversize => .oversize | .duplicate => .duplicate | .listFull => .listFull
  | .notMember => .notMember

/-- The answer to the CLAIM of a QUEUED outlet (R122). -/
def answerClaim (outcome : ClaimOutcome) (standing : Standing) (o : OutletNum) (s : State) : State :=
  match outcome with
  | .admitted =>
    if standing = .slot then grantSlot (enterTested .admitted .admitted) o s else enterTested .admitted .admitted o s
  | .waiting => enterTested .waiting .waiting o s
  | .denied .shedLevel => enterTested .shed .shedLevel o s
  | .denied d => enterOutlet .off (denialCause d) o (openReserve o s)

/-- A CANCELLING outlet with nothing outstanding enters OFF (R124). -/
def endCancelling (cause : OutletCause) (o : OutletNum) (s : State) : State :=
  if s.outlets[o].state = .cancelling && !cancelOutstanding o s && !s.outlets[o].claimOutstanding then
    enterOutlet .off cause o s
  else s

/-- The answer to the CLAIM of an outlet that turned away from it (R124). -/
def answerTurnedAway (outcome : ClaimOutcome) (o : OutletNum) (s : State) : State :=
  let t := setOutlet o (fun x => { x with claimOutstanding := false }) s
  match outcome with
  | .denied _ => t
  | _ => if cancelOutstanding o t then t else postCancel o t

/-- A WAITING or ADMITTED outlet whose entry has gone claims again (R126). -/
def reclaimLost (o : OutletNum) (s : State) : State := queueTested .account o s

/-- What a report does to a WAITING, ADMITTED or SOFT outlet (R123, R126). -/
def actOnStanding (standing : Standing) (o : OutletNum) (s : State) : State :=
  match s.outlets[o].state, standing with
  | .waiting, .admitted => enterTested .admitted .pass o s
  | .waiting, .slot => grantSlot (enterTested .admitted .pass) o s
  | .waiting, .absent => reclaimLost o s
  | .admitted, .slot => grantSlot (fun _ t => t) o s
  | .admitted, .listed => enterOutlet .waiting .account o s
  | .admitted, .absent => reclaimLost o s
  | .soft, .admitted => enterOutlet .admitted .account o (openSwitches o s)
  | .soft, .listed => enterOutlet .waiting .account o (openSwitches o s)
  | .soft, .absent => postClaim o (enterOutlet .queued .account o (openSwitches o s))
  | _, _ => s

/-- The standing of an outlet recorded (R110). -/
def recordStanding (standing : Standing) (o : OutletNum) (s : State) : State :=
  setOutlet o (fun x => { x with standing := standing }) s

/-- The sequencer takes one report: records the standing, then acts by the outlet's state (R122 to R126, R132, R144). -/
def takeReport (r : OutletReport) (s : State) : State :=
  let o := r.outlet
  let t := recordStanding r.standing o s
  match t.outlets[o].state with
  | .queued =>
    match r.outcome with
    | some outcome => answerClaim outcome r.standing o t
    | none => t
  | .waiting | .admitted | .soft => actOnStanding r.standing o t
  | .cancelling | .fault =>
    match r.outcome with
    | some outcome => endCancelling .accepted o (answerTurnedAway outcome o t)
    | none => endCancelling .accepted o t
  | .stopping => endStopping .accepted o t
  | _ => t

/-- The sequencer takes the reports of one treatment in order (R122). -/
def takeReports (reports : List OutletReport) (s : State) : State := reports.foldl (fun t r => takeReport r t) s

/-! ## Turning off and clearing (R118 to R121) -/

/-- OUTLET_OFF by the outlet's state. -/
def turnOff (o : OutletNum) (s : State) : State :=
  match s.outlets[o].state with
  | .queued =>
    let t := openReserve o s
    if claimInFlight o t then enterOutlet .cancelling .command o (giveUpClaim o t)
    else enterOutlet .off .command o (giveUpClaim o t)
  | .waiting | .admitted | .soft => enterOutlet .cancelling .command o (postCancel o (openSwitches o s))
  | .on =>
    let t := setOutlet o (fun x => { x with path := .weak, bleed := some x.config.bleedTime.val }) s
    enterOutlet .stopping .command o (postRelease o t)
  | .dropped =>
    let t := setOutlet o (fun x => { x with heldAs := none }) s
    if s.outlets[o].heldAs = some .soft then enterOutlet .cancelling .command o (postCancel o t)
    else enterOutlet .stopping .command o (postRelease o t)
  | .shed => enterOutlet .off .command o (openSwitches o s)
  | _ => s

/-- Whether OUTLET_CLEAR may take a FAULT outlet to OFF (R121). -/
def faultAnswered (o : OutletNum) (s : State) : Bool :=
  !cancelOutstanding o s && !releaseOutstanding o s && !s.outlets[o].claimOutstanding

/-! ## Timers of one outlet -/

/-- The changeover gap of a SOFT outlet ends: its weak switch closes (R114). -/
def endGap (o : OutletNum) (s : State) : State :=
  if s.outlets[o].gap.isSome then closeWeak o (setOutlet o (fun x => { x with gap := none }) s) else s

/-- The settle timer of a SOFT outlet expires (R128). -/
def endSettle (o : OutletNum) (s : State) : State :=
  if s.outlets[o].settle.isSome then failStart .settleTimeout .settleTimeout o s else s

/-- The bleed ends: the weak switch opens (R132, R144, R150). -/
def endBleed (o : OutletNum) (s : State) : State :=
  if s.outlets[o].bleed.isSome then endStopping .bleed o (openSwitches o s) else s

/-! ## Shedding of own outlets (R143, R148, R149, R153) -/

/-- The drop of one outlet at a counted pulse (R143). -/
def dropOutlet (o : OutletNum) (s : State) : State :=
  match s.outlets[o].state with
  | .on =>
    enterOutlet .dropped .pulse o (setOutlet o (fun x =>
      { x with path := .weak, bleed := some x.config.bleedTime.val, heldAs := some .on }) s)
  | .soft =>
    enterOutlet .dropped .pulse o (setOutlet o (fun x => { x with heldAs := some .soft }) (openSwitches o s))
  | _ => s

/-- An outlet below the agreed level at acceptance of SHED (R148). -/
def shedBelow (o : OutletNum) (s : State) : State :=
  match s.outlets[o].state with
  | .on =>
    enterOutlet .shed .shed o (setOutlet o (fun x =>
      { x with path := .weak, bleed := some x.config.bleedTime.val }) s)
  | .soft => enterOutlet .shed .shed o (openSwitches o s)
  | .dropped => enterOutlet .shed .shed o (setOutlet o (fun x => { x with heldAs := none }) s)
  | .waiting | .admitted => enterTested .shed .shed o s
  | .stopping => endStopping .accepted o s
  | .cancelling => endCancelling .shed o s
  | _ => s

/-- A DROPPED outlet that the SHED or RESTORE did not cover releases its units by its own frame and enters SHED (R149,
R153). -/
def resolveDropped (cause : OutletCause) (o : OutletNum) (s : State) : State :=
  if s.outlets[o].state = .dropped then
    let held := s.outlets[o].heldAs
    let t := setOutlet o (fun x => { x with heldAs := none }) s
    enterOutlet .shed cause o (if held = some .soft then postCancel o t else postRelease o t)
  else s

/-- A SHED outlet with auto-reclaim at acceptance of RESTORE (R153). -/
def reclaimShed (o : OutletNum) (s : State) : State :=
  if s.outlets[o].state = .shed && s.outlets[o].config.autoReclaim then claimOutlet .restore o s else s

/-! ## Entry to ISOLATED and REFUSED (R136) -/

/-- One outlet at entry to ISOLATED or REFUSED. -/
def isolateOutlet (o : OutletNum) (s : State) : State :=
  enterOutlet .off .station o (setOutlet o (fun x =>
    { x with path := .allOpen, heldAs := none, standing := .absent, gap := none, settle := none, bleed := none,
             claimOutstanding := false, due := none }) s)

/-- Reserve-low opens one outlet's reserve switch, its state unchanged (R133). -/
def reserveOpens (o : OutletNum) (s : State) : State :=
  if s.outlets[o].path = .reserve then outletEvent o .reserveLow (openReserve o s) else s

end Sys2Proof.Machine
end

