-- ==== Sys2Proof/Machine/ShedUnit.lean ====
section
/-!
DEFINITION. The shed unit (chapter 6): demands, counted pulses, posting SHED, and what acceptance of SHED or RESTORE does
to it; and the rail and reserve monitors that raise demands (chapter 7).
-/
namespace Sys2Proof.Machine

/-! ## Posting SHED (R145) -/

/-- A posted SHED raised to the local level if that is higher; in flight or not (R107). -/
def raiseShed (s : State) : State :=
  { s with tie.queue := s.tie.queue.map fun q =>
      match q.item with
      | .shed l => if l.val < localLevel s then { q with item := .shed (toLevel (localLevel s)) } else q
      | _ => q }

/-- SHED posted with the local level, as the shed place allows (R145). -/
def postShed (s : State) : State :=
  if s.shed.localCount = 0 then s
  else if isPosted isShed s then raiseShed s
  else if s.tie.queue.any fun q => isRestore q.item && inFlight s q then
    { markFlight isRestore s with shed.postPending := true }
  else
    let t := withdraw isRestore s
    post (.shed (toLevel (localLevel t))) t

/-- The end of a RESTORE attempt that was marked in favour of SHED (R145): the mark is cleared and SHED posted. -/
def endPostPending (s : State) : State :=
  if s.shed.postPending then postShed { s with shed.postPending := false } else s

/-- A driver's posting: the shed-frame wait stops where it posts (R145, log entry 21). -/
def driverPost (s : State) : State :=
  if s.shed.localCount = 0 then s else postShed { s with shed.frameWait := none }

/-! ## Pulses (R137, R142, R143, R146) -/

/-- The local shed count after a counted pulse (R142). -/
def raisedCount (s : State) : Level :=
  if localLevel s < 8 then toLevel (s.shed.localCount.val + 1) else s.shed.localCount

/-- A counted pulse in an active state: count, step timer, a posted SHED raised, and the local drop (R107, R140, R142,
R143). -/
def countPulse (s : State) : State :=
  let t := raiseShed { s with
    shed.localCount := raisedCount s
    shed.stepTimer := some s.settings.station.stepInterval.val }
  forOutletsWhere (belowLevel (localLevel t)) dropOutlet t

/-- The shed-frame wait started unless it runs (R146). -/
def startFrameWait (s : State) : State :=
  { s with shed.frameWait := if s.shed.frameWait.isSome then s.shed.frameWait else some 5 }

/-- The shed line takes a level (R137). -/
def setLineLevel (low : Bool) (s : State) : State := { s with pins.shedLow := low }

/-- A demand (R139): dropped at local level 8, met by driving a pulse from READY, else by the pulse last counted. -/
def demand (s : State) : State :=
  if 8 ≤ localLevel s then s
  else if s.shed.line = .ready then
    driverPost (countPulse { setLineLevel true s with shed.line := .asserted, shed.driving := true })
  else driverPost s

/-- The expiry of the step timer (R140). -/
def endStep (s : State) : State :=
  if s.shed.stepTimer.isNone then s
  else if s.rail.live then
    demand { s with shed.stepTimer := some s.settings.station.stepInterval.val }
  else { s with shed.stepTimer := none }

/-- The expiry of the shed-frame wait (R146). -/
def endFrameWait (s : State) : State :=
  if s.shed.frameWait.isNone then s else postShed { s with shed.frameWait := none }

/-- The shed unit when its station leaves the active states (R138). -/
def releaseShed (s : State) : State :=
  { s with
    shed.driving := false
    shed.localCount := 0
    shed.stepTimer := none
    shed.frameWait := none
    shed.postPending := false }

/-! ## Acceptance of SHED and RESTORE (R108, R148, R149, R152, R153) -/

/-- The withdrawals of own RELEASE, CANCEL and STARTED of outlets below a level (R108, R62), due frames of those kinds
included (R116). -/
def withdrawBelow (level : Nat) (s : State) : State :=
  let below := fun o => belowLevel level o s
  withdraw (isReleasing below) (clearDue (fun o _ => below o) s)

/-- The withdrawal of an own SHED at or below an accepted level (R108). -/
def withdrawShedUpTo (level : Nat) (s : State) : State :=
  withdraw (fun q => match q with | .shed l => decide (l.val ≤ level) | _ => false) s

/-- The local count after the shed level became `agreed`, the local level having been `old` (R142, R148). -/
def settleCount (old : Nat) (s : State) : State :=
  let n := toLevel (old - s.replica.shedLevel.val)
  { s with shed.localCount := n, shed.postPending := s.shed.postPending && n != 0 }

/-- What is left of the count after an accepted SHED is turned into a further SHED (R148). -/
def postRemainder (own : Bool) (s : State) : State :=
  if s.shed.localCount = 0 then s
  else if own then postShed s
  else if isPosted isShed s then s
  else startFrameWait s

/-- The outlets after an accepted SHED or a snapshot that raised the level: those below the level by the table of R148,
the others by their report (R147), in one outlet order (log entry 50). -/
def takeShedReports (level : Nat) (reports : List OutletReport) (s : State) : State :=
  forOutlets (fun o t =>
    match reports.find? fun r => r.outlet == o with
    | some r => if belowLevel level o t then shedBelow o (recordStanding r.standing o t) else takeReport r t
    | none => if belowLevel level o t then shedBelow o t else t) s

/-- The shed unit and sequencer at an accepted SHED, after the account unit (R148, R149). `level` is the level of the
frame, `old` the local level before. That the OUTLET records of the DROPPED outlets of R149 come after all of the first pass,
and not in one outlet order with it (R115), is the model's reading (log entry 50). -/
def shedAccepted (own : Bool) (level old : Nat) (reports : List OutletReport) (s : State) : State :=
  let agreed := s.replica.shedLevel.val
  let t := withdrawBelow agreed (withdrawShedUpTo level s)
  let t := postRemainder own (settleCount old t)
  forOutlets (resolveDropped .shed) (takeShedReports agreed reports t)

/-- The queue and the shed unit at a member's RESTORE (R152). -/
def restoreShedUnit (s : State) : State :=
  let t := withdraw (fun q => isShed q || isRestore q) s
  { t with shed.postPending := false, shed.localCount := 0, shed.frameWait := none }

/-- The outlets at a member's RESTORE, in the two steps of R153. That the OUTLET records of the reclaimed outlets come after
all of the first step's, and not in one outlet order with them (R115), is the model's reading (log entry 50). -/
def restoreOutlets (s : State) : State :=
  forOutlets reclaimShed (forOutlets (resolveDropped .restore) s)

/-! ## The monitors (R159, R160, R164) -/

/-- The rise of the rail sag live flag (R160, R162). -/
def railRise (s : State) : State :=
  let t := recordFault .railSag { s with rail := s.rail.rise }
  if following t then demand t else t

/-- The rise of the reserve-low live flag (R133, R162, R164). That the OUTLET records of the outlets it opens come in ascending
outlet order is the model's choice (log entry 49). -/
def reserveRise (s : State) : State :=
  forOutlets reserveOpens (recordFault .reserveLow { s with reserve := s.reserve.rise })

/-- Whether the rail live flag is to set: sag reported and the filter time reached (R159). -/
def railRiseDue (s : State) : Bool := !s.rail.live && railLow s && railFilterTime s ≤ s.rail.count.val

/-- Whether the reserve live flag is to set (R164). -/
def reserveRiseDue (s : State) : Bool := !s.reserve.live && reserveLow s && 2 ≤ s.reserve.count.val

/-- Whether the monitors run (R166, R193): not in DORMANT, and with the reference running. -/
def monitorsRun (s : State) : Bool := s.membership.station != .dormant && s.clock.running

/-- Readings of the rail comparator over a number of ticks (R159), without the rise. -/
def readRail (ticks : Nat) (s : State) : State :=
  if !railLow s then { s with rail := s.rail.clearLive }
  else if s.rail.live then s
  else { s with rail.count := countTicks (railFilterTime s) s.rail.count ticks }

/-- Readings of the reserve comparator over a number of ticks (R164), without the rise. -/
def readReserve (ticks : Nat) (s : State) : State :=
  if !reserveLow s then { s with reserve := s.reserve.clearLive }
  else if s.reserve.live then s
  else { s with reserve.count := countTicks 2 s.reserve.count ticks }

/-- Readings of both comparators over a number of ticks, where the monitors run (R156, R159, R164, R166). -/
def readMonitors (ticks : Nat) (s : State) : State :=
  if monitorsRun s then readReserve ticks (readRail ticks s) else s

/-- The inrush mark as the start queue gives it (R158). -/
def inrushOf (s : State) : Bool := s.membership.station != .isolated && !s.replica.start.isEmpty

/-- The inrush mark brought up to date, at the end of a treatment or of an entry to ISOLATED (log entries 31 and 51); a
shorter filter can set the live flag at that instant (R158, R159). -/
def updateInrush (s : State) : State :=
  if s.rail.inrush = inrushOf s then s
  else
    let t := { s with rail.inrush := inrushOf s }
    if monitorsRun t && railRiseDue t then railRise t else t

end Sys2Proof.Machine
end

