-- ==== Sys2Proof/Machine/MembershipUnit.lean ====
section
/-!
DEFINITION. The membership unit (chapter 3): station states, peer table, duties, founding, resynchronisation, MUTE,
ISOLATED, and what is done at the end of every treatment (R59, R67, R158, R188).
-/
namespace Sys2Proof.Machine

/-! ## Times (R12, R52, R53, R72) -/

/-- The presence interval in ticks. -/
def presenceInterval (s : State) : Nat := s.settings.shared.presence.val

/-- The silence time and the isolation time: four presence intervals. -/
def silenceTime (s : State) : Nat := 4 * s.settings.shared.presence.val

/-! ## The peer table (R51, R52) -/

/-- One peer entry changed. -/
def setPeer (n : StationNum) (f : Peer → Peer) (s : State) : State :=
  { s with membership.peers := s.membership.peers.set n (f s.membership.peers[n]) }

/-- A treatment of each station number in ascending order: the model's choice where the treatment posts PEER records (log
entry 43). -/
def forStations (f : StationNum → State → State) (s : State) : State := allStations.foldl (fun t n => f n t) s

/-- A peer's presence set with its silence count at 0, and a PEER event if the presence changed (R51). R51 gives the count 0 at
reset and to a station that enters the member set; the count 0 of an entry that becomes ABSENT is the model's choice (log entry
46). -/
def setPresence (p : Presence) (n : StationNum) (s : State) : State :=
  let t := setPeer n (fun x => { x with presence := p, silence := 0 }) s
  if s.membership.peers[n].presence = p then t else postEvent (.peer n p) t

/-- A peer becomes PRESENT: a posted FORGET of it that is not in flight is withdrawn (R51, R52, R78). -/
def becomePresent (n : StationNum) (s : State) : State := withdraw (fun q => q == .forget n) (setPresence .present n s)

/-- The presence of one station follows a change of the member set (R51). -/
def followMember (before : Half) (n : StationNum) (s : State) : State :=
  if inSet before n = inSet s.replica.members n then s
  else if inSet s.replica.members n then if n = s.number then setPresence .self n s else becomePresent n s
  else setPresence .absent n s

/-- The presences follow a change of the member set (R51), their PEER records in ascending station order (R182, log entry
43). -/
def followMembers (before : Half) (s : State) : State := forStations (followMember before) s

/-- Every entry becomes ABSENT, the stored refusal digests kept (R51, R64), the PEER records in ascending station order (R182,
log entry 43). -/
def clearPeers (s : State) : State :=
  forStations (fun n t => setPresence .absent n (setPeer n (fun x => { x with duty := .none }) t)) s

/-- A frame from a station is accepted: its silence count starts again, and a LOST entry becomes PRESENT (R52). The table is
frozen in ISOLATED (R51). -/
def heard (n : StationNum) (s : State) : State :=
  if s.membership.station = .isolated then s
  else if s.membership.peers[n].presence = .lost then becomePresent n s
  else setPeer n (fun x => { x with silence := 0 }) s

/-- A PRESENT peer's silence count has reached the silence time (R52). -/
def losePeer (n : StationNum) (s : State) : State :=
  if following s && s.membership.peers[n].presence == .present then
    postEvent (.peer n .lost) (setPeer n (fun x => { x with presence := .lost, silence := silenceTime s }) s)
  else s

/-! ## Duties (R59) -/

/-- Whether a frame is an own SNAPSHOT or REFUSE for a target. -/
def isDutyFrame (t : StationNum) : QueueItem → Bool
  | .snapshot t' | .refuse t' _ => t' == t
  | _ => false

/-- The duty for a station cleared, and the own posted frame for it withdrawn (R59). -/
def clearDuty (t : StationNum) (s : State) : State :=
  withdraw (isDutyFrame t) (setPeer t (fun x => { x with duty := .none }) s)

/-- A duty for a station taken on by a SYNCED station other than that one; a posted frame of the other kind for it is
withdrawn (R55, R59, R69). -/
def takeDuty (d : Duty) (t : StationNum) (s : State) : State :=
  if s.membership.station != .synced || t == s.number then s
  else
    let u := setPeer t (fun x => { x with duty := d }) s
    withdraw (fun q => match q with
      | .snapshot t' => t' == t && d != .snapshot
      | .refuse t' _ => t' == t && d != .refuse
      | _ => false) u

/-- The digest the station places in its frames (R13). -/
def ownDigest (s : State) : Half := s.settings.digest.getD 0#16

/-- The frame for the lowest-numbered duty posted when the snapshot place is empty (R59). -/
def postDuty (s : State) : State :=
  if s.membership.station != .synced then s
  else
    match allStations.find? fun n => s.membership.peers[n].duty != .none with
    | none => s
    | some n =>
      match s.membership.peers[n].duty with
      | .refuse => post (.refuse n (ownDigest s)) s
      | _ => post (.snapshot n) s

/-! ## Station states (R49, R50) -/

/-- The station enters a state and posts the STATION event (R49). -/
def enterStation (st : StationState) (cause : StationCause) (s : State) : State :=
  postEvent (.station st cause) { s with membership.station := st }

/-- What the membership unit does at the instant the station leaves SYNCED (R50). -/
def leaveSynced (dest : StationState) (s : State) : State :=
  if s.membership.station != .synced then s
  else
    let t := forStations (fun n => setPeer n fun x => { x with duty := .none }) s
    let t := markFlight isSnapshotClass (withdraw isSnapshotClass t)
    if dest = .leaving then t else withdraw isPresence t

/-- The snapshot wait and what hangs on it stopped. -/
def stopWait (s : State) : State :=
  { s with membership.awaiting := false, membership.snapshotWait := none, membership.waitExpired := false,
           membership.resyncWish := .none }

/-- The settings unsealed, kept as they were sealed (R12). -/
def unsealSettings (s : State) : State := { s with settings.digest := none, settings.awaitingLock := false }

/-- PRESENCE posted and its timer set (R53). -/
def postPresence (s : State) : State :=
  let t := post .presence s
  { t with membership.presenceTimer := some (presenceInterval t) }

/-- Entry to SYNCED (R53, R58, R62). -/
def enterSynced (cause : StationCause) (s : State) : State := postPresence (enterStation .synced cause (stopWait s))

/-- Entry to RESYNCING (R50, R67); RESYNC is posted at the end of the treatment. -/
def enterResyncing (cause : StationCause) (s : State) : State :=
  let t := enterStation .resyncing cause (leaveSynced .resyncing s)
  { stopWait t with membership.attempt := 1, membership.foundingMark := false, membership.presenceTimer := none,
                    membership.resyncWish := .first }

/-- Entry to MUTE (R72). -/
def enterMute (s : State) : State :=
  let t := leaveSynced .mute s
  let t := if s.membership.station = .leaving then withdraw isPresence t else t
  let t := withdraw isMembershipClass t
  let t := stopWait (enterStation .mute .sendFailed t)
  { t with membership.presenceTimer := none, membership.isolationTimer := some (silenceTime t),
           membership.muteTimer := some (presenceInterval t) }

/-- The timers of the membership unit stopped. -/
def stopMembershipTimers (s : State) : State :=
  { stopWait s with membership.presenceTimer := none, membership.isolationTimer := none, membership.muteTimer := none }

/-- The tie interface stops sending at entry to ISOLATED (R80, R100). -/
def listenOnly (s : State) : State :=
  { s with tie.mode := if s.tie.mode = .active then .listening else s.tie.mode, tie.aborting := false }

/-- Entry to ISOLATED (R75, R136): the replica and the presences are frozen. Where no acceptance leads to it, that the OUTLET
records come in ascending outlet order is the model's choice (log entry 49). The inrush mark clears after it (log entry 51). -/
def enterIsolated (cause : StationCause) (s : State) : State :=
  let t := enterStation .isolated cause s
  let t := forOutlets isolateOutlet t
  let t := emptyQueue t
  let t := forStations (fun n => setPeer n fun x => { x with duty := .none }) t
  releaseShed (listenOnly (stopMembershipTimers t))

/-- Entry to REFUSED (R64, R136). -/
def enterRefused (s : State) : State :=
  let t := enterStation .refused .refused (leaveSynced .refused s)
  let t := forOutlets isolateOutlet t
  let t := emptyQueue t
  let t := clearPeers (setReplica .empty t)
  let t := releaseShed (stopMembershipTimers t)
  { t with membership.attempt := 0 }

/-- Entry to CONFIG from JOINING, REFUSED or LEAVING (R57, R76, R77, R104). -/
def enterConfig (cause : StationCause) (s : State) : State :=
  let t := emptyQueueConfig (stopMembershipTimers s)
  enterStation .config cause (unsealSettings (releaseShed t))

/-! ## Joining and founding (R54 to R58, R71) -/

/-- Founding from JOINING (R58): the empty account with this station and the remembered joiners. -/
def foundJoining (s : State) : State :=
  let members := addMember s.membership.remembered s.number
  let t := setReplica { Replica.empty with members := members } s
  enterSynced .founded (followMembers s.replica.members t)

/-- Founding from RESYNCING (R71): the replica is kept; deferred starts begin (R135). -/
def foundResyncing (s : State) : State := startDeferred (enterSynced .founded s)

/-- A join attempt ended without a snapshot (R57). -/
def endJoinAttempt (s : State) : State :=
  let t := stopWait s
  if s.membership.attempt.val < 3 then
    post (.join (ownDigest t)) { t with membership.attempt := s.membership.attempt + 1 }
  else enterConfig .timeout (recordFault .joinTimeout t)

/-- A resynchronisation attempt ended without a snapshot (R71): a further RESYNC is to be posted. -/
def endResyncAttempt (s : State) : State :=
  let t := { stopWait s with membership.resyncWish := .again }
  if s.membership.attempt.val < 3 then { t with membership.attempt := s.membership.attempt + 1 }
  else recordFault .joinTimeout t

/-- The expiry of the snapshot wait (R57, R71). -/
def expireWait (s : State) : State :=
  match s.membership.station with
  | .joining => if s.membership.foundingMark then endJoinAttempt s else foundJoining s
  | .resyncing => if s.membership.foundingMark then endResyncAttempt s else foundResyncing s
  | _ => stopWait s

/-- The expiry of the snapshot wait, put off to the end of a frame being received (R57, R71). Such a frame began with a
dominant bit, so the bus is no longer idle (R83). -/
def snapshotWaitExpires (receiving : Bool) (s : State) : State :=
  if s.membership.snapshotWait.isNone then s
  else if receiving && canReceive s || s.tie.receiving then
    { s with membership.snapshotWait := none, membership.waitExpired := true, tie.receiving := true, tie.recessive := 0 }
  else expireWait s

/-- A put-off expiry handled when its frame has ended (R57). -/
def endReception (s : State) : State :=
  let t := { s with tie.receiving := false }
  if t.membership.waitExpired then expireWait { t with membership.waitExpired := false } else t

/-- The snapshot wait started from its full setting (R56, R71). -/
def startWait (s : State) : State :=
  { s with membership.snapshotWait := some s.settings.shared.wait.val, membership.awaiting := true }

/-- The snapshot wait restarted if it runs (R56, R71). -/
def restartWait (s : State) : State := if s.membership.snapshotWait.isSome then startWait s else s

/-- The founding mark set (R56, R71). -/
def setFoundingMark (s : State) : State := { s with membership.foundingMark := true }

/-- The tie interface seeks idle at a bit-rate code: it neither receives, sends nor aborts (R80, R81, R83). -/
def seekIdle (rate : Fin 5) (t : Tie) : Tie :=
  { t with mode := .seeking, rate := rate, recessive := 0, receiving := false, tx := none, aborting := false }

/-- The lock is reported: the tie interface seeks idle unless it is ACTIVE at the code sealed, JOIN is posted and the
station enters JOINING (R54, R80, R81). -/
def lockReported (s : State) : State :=
  let rate := s.settings.shared.rate
  let seek := s.tie.mode = .off || (s.tie.mode = .active && s.tie.rate ≠ rate)
  let t := { s with
    settings.awaitingLock := false
    tie := if seek then seekIdle rate s.tie else { s.tie with rate := rate } }
  enterStation .joining .command (post (.join (ownDigest t)) t)

/-! ## Resynchronisation (R67 to R70) -/

/-- RESYNC posted once no own outlet is in SOFT and the membership place is free (R67, R71, R102). -/
def postWish (s : State) : State :=
  if s.membership.station != .resyncing || s.membership.resyncWish == .none || anySoft s || !placeFree .membership s then s
  else
    let t := post (.resync false) s
    { t with membership.resyncWish := .none
             membership.foundingMark := s.membership.resyncWish == .first && s.membership.foundingMark }

/-- Whether the units of an outlet are counted in the truth bins; `after` says whether its RELEASE was posted after the
RESYNC (R68). That "not yet accepted" takes in a RELEASE kept due is the model's reading (log entry 22). -/
def countedInTruth (o : OutletNum) (after : Bool) (s : State) : Bool :=
  match s.outlets[o].state with
  | .admitted | .on | .dropped => true
  | .stopping => releaseOutstanding o s
  | .fault | .shed => after
  | _ => false

/-- Whether an outlet's RELEASE was posted after a posting sequence (R68). -/
def releaseAfter (seq : Nat) (o : OutletNum) (s : State) : Bool :=
  s.tie.queue.any fun q => isReleaseOf o q.item && seq < q.seq

/-- The truth bins of a RESYNC with a posting sequence (R68). -/
def truthBins (seq : Nat) (s : State) : Row :=
  Vector.ofFn fun p => toUnits ((allOutlets.map fun o =>
    if s.outlets[o].config.priority = p && countedInTruth o (releaseAfter seq o s) s
    then s.outlets[o].config.weight.val else 0).sum)

/-- Whether an outlet is declared with a start entry (R68). -/
def declared (o : OutletNum) (s : State) : Bool :=
  s.outlets[o].state == .admitted || (s.outlets[o].state == .dropped && s.outlets[o].heldAs == some .soft)

/-- The declared start entries of a RESYNC (R68). -/
def declaredEntries (s : State) : List WireEntry :=
  (allOutlets.filter fun o => declared o s).map fun o =>
    ⟨s.number, o, s.outlets[o].config.priority, s.outlets[o].config.weight, 0⟩

/-- The outlets whose RELEASE the acceptance of the own RESYNC withdraws (R70, R109, R116). -/
def releaseWithdrawn (seq : Nat) (o : OutletNum) (s : State) : Bool :=
  (s.tie.queue.any fun q => isReleaseOf o q.item && decide (q.seq < seq)) || s.outlets[o].due == some .release

/-- The withdrawals at the acceptance of the own RESYNC (R109, R116). -/
def withdrawSuperseded (seq : Nat) (s : State) : State :=
  leaveQueue (fun q => isReleasing (fun _ => true) q.item && decide (q.seq < seq) && !inFlight s q)
    (clearDue (fun _ _ => true) s)

/-- The outstanding CLAIM of a CANCELLING or FAULT outlet withdrawn at the own RESYNC (R124). -/
def dropOutstandingClaim (o : OutletNum) (s : State) : State :=
  if s.outlets[o].claimOutstanding then
    withdraw (isClaimOf o) (setOutlet o (fun x => { x with claimOutstanding := false }) s)
  else s

/-- One outlet reconciled at the acceptance of the own RESYNC (R70). `released` says that its RELEASE was withdrawn. -/
def reconcileOutlet (released : Bool) (o : OutletNum) (s : State) : State :=
  let below := belowLevel s.replica.shedLevel.val o s
  match s.outlets[o].state with
  | .admitted =>
    if below then enterTested .shed .resync o s
    else if s.replica.start.any (isPair s.number o) then s
    else queueTested .resync o s
  | .waiting => if below then enterTested .shed .resync o s else queueTested .resync o s
  | .on =>
    if below then
      enterOutlet .shed .resync o (setOutlet o (fun x =>
        { x with path := .weak, bleed := some x.config.bleedTime.val }) s)
    else s
  | .dropped =>
    if below then enterOutlet .shed .resync o (setOutlet o (fun x => { x with heldAs := none }) s) else s
  | .stopping =>
    if !released then s else if below then endStopping .resync o s else postRelease o s
  | .cancelling => enterOutlet .off .resync o (dropOutstandingClaim o s)
  | .fault => dropOutstandingClaim o s
  | _ => s

/-- The reconciliation at the acceptance of the own RESYNC (R70), with the withdrawals before it. -/
def reconcile (seq : Nat) (reports : List OutletReport) (s : State) : State :=
  let t := withdrawSuperseded seq s
  let t := reports.foldl (fun u r => recordStanding r.standing r.outlet u) t
  forOutlets (fun o => reconcileOutlet (releaseWithdrawn seq o s) o) t

/-! ## Divergence (R61, R65, R66) -/

/-- A SYNCED station other than the sender compares a carried state check with its own (R61, R65, R66). -/
def compareCheck (carried own : Half) (sender : StationNum) (s : State) : State :=
  if s.membership.station != .synced || carried == own then s
  else
    let t := recordFault .divergence s
    if sender.val < s.number.val then enterResyncing .divergence t else t

/-! ## The end of a treatment -/

/-- A fatal fault recorded in the treatment isolates the station by the state the treatment left (R188). That the inrush mark
clears as the last act of the entry to ISOLATED, with the record of a RAIL_SAG that this brings after those of the entry, is
the model's choice (R158, log entry 51). -/
def escalate (s : State) : State :=
  if !s.report.escalate then s
  else
    let t := if s.membership.station.isolates then updateInrush (enterIsolated .fatal s) else s
    { t with report.escalate := false }

/-- What is left to be done when a treatment is complete: the inrush mark (R158), a RESYNC waited for (R67), the next duty
(R59), escalation (R188). -/
def finish (s : State) : State := escalate (postDuty (postWish (updateInrush s)))

end Sys2Proof.Machine
end

