-- ==== Sys2Proof/WellFormed.lean ====
section
/-!
DEFINITION. Which commands are well formed: those whose operands the outside can produce (list lengths of R200, R201,
payload lengths of R84, requests that are malformed as R172 says).
-/
namespace Sys2Proof
open Sys2Proof.Machine

/-- The counts of a SNAPSHOT within those of a good frame (R201). -/
def SnapshotContent.wellFormed (c : SnapshotContent) : Bool :=
  c.rows.length ≤ 16 && c.wait.length ≤ 32 && c.start.length ≤ 32

/-- The count of a RESYNC within that of a good frame (R201). -/
def ResyncContent.wellFormed (c : ResyncContent) : Bool := c.entries.length ≤ 8

/-- The payload holds as many bytes as the length field gives (R84, R90). -/
def RawFrame.wellFormed (f : RawFrame) : Bool := f.payload.length == f.length.val

/-- Whether a command is one the outside can send. -/
def Instr.wellFormed : Instr → Bool
  | .badFormat bytes brokenBits => !wellFormedRequest bytes brokenBits && (!bytes.isEmpty || brokenBits != 0)
  | .frameVetoed rx => rx.wellFormed
  | .acceptSnapshot _ _ c => c.wellFormed
  | .acceptResync _ c => c.wellFormed
  | _ => true

end Sys2Proof
end

