-- ==== Sys2Proof/Machine/Acceptance.lean ====
section
/-!
DEFINITION. The treatment of an accepted frame (R23, R52 to R79, R93, R99, R147 to R153, R202): what the tie interface
does first, what the units do in each station state, and what is done when the treatment is complete.
-/
namespace Sys2Proof.Machine

/-- What a treatment knows of the accepted frame: the frame, whether this station sent it, and the posting sequence of the
own frame. -/
structure Accepted where
  frame : TieFrame
  sent : Bool
  seq : Nat
deriving DecidableEq, Repr

/-! ## Loading a snapshot (R21, R62) -/

/-- OVERCOMMIT recorded if the total exceeds C (R4, R39, R69, R147). -/
def checkOvercommit (s : State) : State :=
  recordWhen (s.settings.shared.capacity.val < accountTotal s.replica) .overcommit s

/-- The replica after a load with its admission pass (R21). -/
def loadedReplica (c : SharedSettings) (content : SnapshotContent) : Replica :=
  admissionPass c (replicaOf content)

/-- A snapshot that passes the checks is loaded (R62). The OUTLET records of the deferred starts come after all of the
reports' (log entry 50); that SHED_LEVEL comes first is the model's choice (log entry 52). -/
def loadSnapshot (a : Accepted) (content : SnapshotContent) (s : State) : State :=
  let before := s.replica
  let old := localLevel s
  let change : AccountChange := { replica := loadedReplica s.settings.shared content }
  let reports := reportsOf (slotCount s) s.number false a.frame before change
  let t := setReplica change.replica s
  let level := t.replica.shedLevel.val
  let t := if level = before.shedLevel.val then t else postEvent (.shedLevel t.replica.shedLevel) t
  let t := if before.shedLevel.val < level then withdrawBelow level t else t
  let t := settleCount old t
  let t := enterSynced .snapshot (followMembers before.members t)
  let t := if before.shedLevel.val < level then takeShedReports level reports t else takeReports reports t
  startDeferred t

/-- The checks of R62 and the load, without the overcommit check. A snapshot that fails check 2 or 3 sets the founding mark,
as every frame does that is neither an equal-digest JOIN nor loaded (R56, R71). -/
def checkThenLoad (a : Accepted) (content : SnapshotContent) (s : State) : State :=
  if s.settings.digest ≠ some content.digest then enterRefused (recordFault .joinRefused s)
  else if !inSet content.members s.number then setFoundingMark s
  else if !snapshotSound content then setFoundingMark (recordFault .divergence s)
  else loadSnapshot a content s

/-- The checks of R62 and the load; the total is compared with C where the replica follows frames afterwards (R4), after all
records of the load (log entry 52). -/
def checkAndLoad (a : Accepted) (content : SnapshotContent) (s : State) : State :=
  let t := checkThenLoad a content s
  if following t then checkOvercommit t else t

/-- Whether a SNAPSHOT is for this station to load: it is the target, in JOINING or RESYNCING, and awaiting (R62). -/
def isLoader (target : Byte) (s : State) : Bool :=
  stationOf target == some s.number && s.membership.awaiting
    && (s.membership.station == .joining || s.membership.station == .resyncing)

/-! ## JOINING (R56) -/

/-- This station's own REFUSE (R63): the refusal digest stored, then REFUSED. -/
def refused (sender : StationNum) (digest : Half) (s : State) : State :=
  enterRefused (recordFault .joinRefused (setPeer sender (fun x => { x with refusal := some digest }) s))

/-- Whether a frame is a FORGET with a target above 15, which the account unit and the membership unit ignore but for the
sender's silence count (R202). Its acceptance is one like others all the same: the total is compared with C (R4, log entry
15). -/
def isIgnoredForget : FrameBody → Bool
  | .forget t => (stationOf t).isNone
  | _ => false

/-- An accepted frame in JOINING: no account, only the join (R56). -/
def acceptJoining (a : Accepted) (s : State) : State :=
  match a.frame.body with
  | .join d =>
    if a.sent then startWait s
    else if s.settings.digest = some d then
      restartWait { s with membership.remembered := addMember s.membership.remembered a.frame.sender }
    else enterRefused (recordFault .joinRefused s)
  | .refuse t d => if stationOf t = some s.number then refused a.frame.sender d s else setFoundingMark s
  | .snapshot t content => if isLoader t s then checkAndLoad a content s else setFoundingMark s
  | body => if isIgnoredForget body then s else setFoundingMark s

/-! ## States in which the replica follows accepted frames -/

/-- The founding mark and the snapshot wait of a RESYNCING station at an accepted frame (R71): an equal-digest JOIN
restarts the wait, every other frame but the own RESYNC sets the mark, a SNAPSHOT that is then not loaded among them. A
RESTORE of a non-member sets it too, though R152 has no block act on it further, and a FORGET with a target above 15 does
not (log entry 32). -/
def noteResyncing (a : Accepted) (s : State) : State :=
  if s.membership.station != .resyncing then s
  else
    match a.frame.body with
    | .join d => if s.settings.digest = some d then restartWait s else setFoundingMark s
    | .resync _ => if a.sent then s else setFoundingMark s
    | body => if isIgnoredForget body then s else setFoundingMark s

/-- The SHED_LEVEL event of a change of the replica's shed level (R147, R152, R154). -/
def shedLevelEvent (before : Level) (s : State) : State :=
  if s.replica.shedLevel = before then s else postEvent (.shedLevel s.replica.shedLevel) s

/-- Whether a frame is a SNAPSHOT: its overcommit check follows a load (R4, R62). -/
def isSnapshotFrame : FrameBody → Bool
  | .snapshot .. => true
  | _ => false

/-- Whether the treatment of an accepted frame goes on to empty the replica: the own LEAVE in LEAVING (R77), a REFUSE of a
RESYNCING station (R63, R64). -/
def emptiesReplica (a : Accepted) (s : State) : Bool :=
  match a.frame.body with
  | .leave => a.sent && s.membership.station == .leaving
  | .refuse t _ => stationOf t == some s.number && s.membership.station == .resyncing
  | _ => false

/-- Whether the total is compared with C at the end of the account's part (R4), as it is at every acceptance: not where a
load follows, which makes the comparison itself, or where the replica is about to be emptied (log entry 15). -/
def testsTotal (a : Accepted) (s : State) : Bool := !isSnapshotFrame a.frame.body && !emptiesReplica a s

/-- The end of the account's part: OVERCOMMIT, the presences and the sender's silence count (R4, R51, R52). -/
def closeAccount (a : Accepted) (members : Half) (s : State) : State :=
  heard a.frame.sender (followMembers members (if testsTotal a s then checkOvercommit s else s))

/-- An accepted SHED in a following state (R147 to R149). -/
def followShed (a : Accepted) (level : Byte) (reports : List OutletReport) (before : Replica) (old : Nat) (s : State) :
    State :=
  match shedLevelOf level with
  | none => heard a.frame.sender (checkOvercommit s)
  | some l =>
    let t := shedLevelEvent before.shedLevel (checkOvercommit s)
    heard a.frame.sender (shedAccepted a.sent l.val old reports t)

/-- An accepted RESTORE in a following state: the OUTLET records of the reports (R152), then those of the outlets' two steps
(R153, log entry 50). That the SHED_LEVEL record precedes the FAULT record of OVERCOMMIT is the model's choice (log entry
52). -/
def followRestore (a : Accepted) (reports : List OutletReport) (before : Replica) (s : State) : State :=
  if inSet before.members a.frame.sender then
    let t := shedLevelEvent before.shedLevel (takeReports reports s)
    restoreOutlets (restoreShedUnit (closeAccount a before.members t))
  else heard a.frame.sender (checkOvercommit s)

/-- The own RESYNC accepted (R69 to R71, R73). -/
def followOwnResync (a : Accepted) (reports : List OutletReport) (before : Replica) (s : State) : State :=
  let t := closeAccount a before.members (reconcile a.seq reports s)
  if t.membership.station = .resyncing then startWait t else t

/-- The own LEAVE accepted in LEAVING (R77). -/
def leaveAccepted (s : State) : State :=
  enterConfig .left (emptyQueue (clearPeers (setReplica .empty s)))

/-- A station whose number an accepted LEAVE or FORGET names is forgotten by the membership unit (R59). -/
def clearDutyOf (t : Option StationNum) (s : State) : State :=
  match t with
  | some n => clearDuty n s
  | none => s

/-- A REFUSE in a following state (R63). For another station and with a digest that is not the own one it is a divergence to
a SYNCED station and, as a frame in LEAVING is treated as in SYNCED (R76), to a LEAVING one (log entry 40). -/
def followRefuse (a : Accepted) (target : Byte) (digest : Half) (s : State) : State :=
  let t := clearDutyOf (stationOf target) s
  if stationOf target = some t.number then
    if t.membership.station = .resyncing then refused a.frame.sender digest t else recordFault .joinRefused t
  else
    let compares := t.membership.station == .synced || t.membership.station == .leaving
    recordWhen (compares && t.settings.digest != some digest) .divergence t

/-- A SNAPSHOT in a following state (R61, R62). `check` is the state check before the acceptance. -/
def followSnapshot (a : Accepted) (target : Byte) (content : SnapshotContent) (check : Half) (s : State) : State :=
  let t := clearDutyOf (stationOf target) s
  if isLoader target t then checkAndLoad a content t
  else compareCheck content.check check a.frame.sender (checkOvercommit t)

/-- The duty of a JOIN or RESYNC by its digest (R55, R69). -/
def dutyFor (digest : Half) (s : State) : Duty := if s.settings.digest = some digest then .snapshot else .refuse

/-- The membership unit's part for the kinds it owns, after the account's part (chapter 3). -/
def followMembership (a : Accepted) (check : Half) (s : State) : State :=
  match a.frame.body with
  | .join d => takeDuty (dutyFor d s) a.frame.sender s
  | .resync c => takeDuty (dutyFor c.digest s) a.frame.sender s
  | .leave =>
    let t := clearDuty a.frame.sender s
    if a.sent && t.membership.station == .leaving then leaveAccepted t else t
  | .forget b =>
    let t := clearDutyOf (stationOf b) s
    recordWhen (stationOf b == some t.number) .forgotten t
  | .refuse t d => followRefuse a t d s
  | .snapshot t c => followSnapshot a t c check s
  | .presence c => if a.frame.sender = s.number then s else compareCheck c check a.frame.sender s
  | _ => s

/-- An accepted frame in a state whose replica follows accepted frames: the account unit's change and pass, FOREIGN_FRAME,
the reports acted on, OVERCOMMIT, the peer table, then what the kind asks of the other units (R23, R69, R147, R152). -/
def acceptFollowing (a : Accepted) (s : State) : State :=
  let before := s.replica
  let check := s.check
  let old := localLevel s
  let change := accountChange s.settings.shared s.settings.digest before a.frame
  let reports := reportsOf (slotCount s) s.number a.sent a.frame before change
  let t := recordWhen change.foreign .foreignFrame (setReplica change.replica s)
  let t := match a.frame.body with
    | .shed level => followShed a level reports before old t
    | .restore => followRestore a reports before t
    | .resync _ => if a.sent then followOwnResync a reports before t else closeAccount a before.members (takeReports reports t)
    | _ => closeAccount a before.members (takeReports reports t)
  followMembership a check (noteResyncing a t)

/-! ## Every acceptance -/

/-- An accepted frame in CONFIG, REFUSED, ISOLATED: a REFUSE naming this station records JOIN_REFUSED (R63), nothing else
has an effect (R20, R80). -/
def acceptIdle (a : Accepted) (s : State) : State :=
  match a.frame.body with
  | .refuse t _ => recordWhen (stationOf t == some s.number) .joinRefused s
  | _ => s

/-- The treatment by station state (R20, R80). -/
def treatAccepted (a : Accepted) (s : State) : State :=
  match s.membership.station with
  | .joining => acceptJoining a s
  | .synced | .leaving | .resyncing => acceptFollowing a s
  | .mute =>
    match a.frame.body with
    | .resync _ =>
      if a.sent then
        acceptFollowing a { enterResyncing .recovered s with
          membership.isolationTimer := none, membership.muteTimer := none, membership.resyncWish := .none }
      else acceptFollowing a s
    | _ => acceptFollowing a s
  | _ => acceptIdle a s

/-- The veto run count at an acceptance (R93, R97, R98): a good frame of another station ends suppression. -/
def acceptVeto (sent : Bool) (s : State) : State :=
  if sent && s.tie.suppressed then s else { s with tie.vetoRun := 0, tie.suppressed := false }

/-- The presence timer starts again at the acceptance of a frame this station sent (R53). -/
def restartPresence (sent : Bool) (s : State) : State :=
  if sent && s.membership.presenceTimer.isSome then { s with membership.presenceTimer := some (presenceInterval s) } else s

/-- The treatment of an acceptance in the order of R93: the own frame leaves the queue, the veto run, the duplicate number
check, the units; then the end of the reception (R57) and of the treatment. -/
def treat (a : Accepted) (s : State) : State :=
  let t := if a.sent then leaveQueue (fun q => q.seq == a.seq) { s with tie.tx := none } else s
  let t := restartPresence a.sent (acceptVeto a.sent { t with tie.recessive := 0 })
  let t := recordWhen (!a.sent && a.frame.sender == t.number) .duplicateNumber t
  finish (endReception (treatAccepted a t))

/-- Whether a frame can be good: the counts of its lists are those R201 allows. -/
def carriable : FrameBody → Bool
  | .snapshot _ c => c.wellFormed
  | .resync c => c.wellFormed
  | _ => true

/-- A frame is accepted. A station that sends accepts only the frame it drives, and an interface that is OFF or SEEKING
accepts none (R80, R93; log entries 4 and 8). -/
def acceptFrame (f : TieFrame) (s : State) : State :=
  if s.resetting.isSome || !delivers s || !carriable f.body then s
  else
    match s.tie.tx with
    | some t => if t.frame = f then treat ⟨f, true, t.seq⟩ s else s
    | none => treat ⟨f, false, 0⟩ s

end Sys2Proof.Machine
end

