-- ==== Sys2Proof/Machine/AcceptCommands.lean ====
section
/-!
DEFINITION. The meanings of the acceptance commands, one for each frame kind of R200. Each is the treatment of R93 with the
frame the row names; what a kind does is in `accountChange` and in the units of Sys2Proof/Machine/Acceptance.lean.
-/
namespace Sys2Proof.Machine

/-- Acceptance of SHED (R147 to R149). -/
def execAcceptShed (sender : StationNum) (level : Byte) (s : State) : Result :=
  actsOnBus (acceptFrame ⟨sender, .shed level⟩) s

/-- Acceptance of RESTORE (R152, R153). -/
def execAcceptRestore (sender : StationNum) (s : State) : Result :=
  actsOnBus (acceptFrame ⟨sender, .restore⟩) s

/-- Acceptance of SNAPSHOT (R61, R62). -/
def execAcceptSnapshot (sender : StationNum) (target : Byte) (content : SnapshotContent) (s : State) : Result :=
  actsOnBus (acceptFrame ⟨sender, .snapshot target content⟩) s

/-- Acceptance of REFUSE (R63). -/
def execAcceptRefuse (sender : StationNum) (target : Byte) (digest : Half) (s : State) : Result :=
  actsOnBus (acceptFrame ⟨sender, .refuse target digest⟩) s

/-- Acceptance of JOIN (R55, R56). -/
def execAcceptJoin (sender : StationNum) (digest : Half) (s : State) : Result :=
  actsOnBus (acceptFrame ⟨sender, .join digest⟩) s

/-- Acceptance of RESYNC (R69 to R71). -/
def execAcceptResync (sender : StationNum) (content : ResyncContent) (s : State) : Result :=
  actsOnBus (acceptFrame ⟨sender, .resync content⟩) s

/-- Acceptance of LEAVE (R77). -/
def execAcceptLeave (sender : StationNum) (s : State) : Result :=
  actsOnBus (acceptFrame ⟨sender, .leave⟩) s

/-- Acceptance of FORGET (R79). -/
def execAcceptForget (sender : StationNum) (target : Byte) (s : State) : Result :=
  actsOnBus (acceptFrame ⟨sender, .forget target⟩) s

/-- Acceptance of STARTED (R35). -/
def execAcceptStarted (sender : StationNum) (outlet : Byte) (s : State) : Result :=
  actsOnBus (acceptFrame ⟨sender, .started outlet⟩) s

/-- Acceptance of CANCEL (R33). -/
def execAcceptCancel (sender : StationNum) (outlet : Byte) (s : State) : Result :=
  actsOnBus (acceptFrame ⟨sender, .cancel outlet⟩) s

/-- Acceptance of RELEASE (R36). -/
def execAcceptRelease (sender : StationNum) (outlet : Byte) (priority : Fin 16) (weight : Units) (s : State) : Result :=
  actsOnBus (acceptFrame ⟨sender, .release outlet priority weight⟩) s

/-- Acceptance of CLAIM (R25). -/
def execAcceptClaim (sender : StationNum) (outlet : Byte) (priority : Fin 16) (weight : Units) (s : State) : Result :=
  actsOnBus (acceptFrame ⟨sender, .claim outlet priority weight⟩) s

/-- Acceptance of PRESENCE (R65). -/
def execAcceptPresence (sender : StationNum) (check : Half) (s : State) : Result :=
  actsOnBus (acceptFrame ⟨sender, .presence check⟩) s

end Sys2Proof.Machine
end

