-- ==== Sys2Proof/Machine/TieUnit.lean ====
section
/-!
DEFINITION. The tie interface beside acceptance (chapter 4): which frame is sent next and what it carries, failed attempts,
the veto limit, idle, and stopping in the middle of a frame.
-/
namespace Sys2Proof.Machine

/-! ## Choosing and composing (R86, R89, R103) -/

/-- The kind code of a posted frame (R200). -/
def itemKind : QueueItem → Nat
  | .shed .. => 0 | .restore => 1 | .snapshot .. => 2 | .refuse .. => 3 | .join .. => 4 | .resync .. => 5 | .leave => 6
  | .forget .. => 7 | .started .. => 8 | .cancel .. => 9 | .release .. => 10 | .claim .. => 11 | .presence => 12

/-- Whether a frame is an outlet frame. -/
def isOutletClass (q : QueueItem) : Bool :=
  match placeOf q with
  | .outlet _ => true
  | _ => false

/-- Whether a posted frame may be chosen in a station state (R103). -/
def eligible (st : StationState) (q : Posted) : Bool :=
  match st with
  | .synced | .leaving => true
  | .joining => isMembershipClass q.item
  | .resyncing => !isOutletClass q.item
  | .mute => q.item == .resync true
  | _ => false

/-- Whether one posted frame goes before another: lower kind code, then posted earlier (R86). -/
def goesBefore (a b : Posted) : Bool :=
  itemKind a.item < itemKind b.item || (itemKind a.item == itemKind b.item && a.seq < b.seq)

/-- The frame chosen from a list (R86). -/
def firstToGo : List Posted → Option Posted
  | [] => none
  | q :: rest =>
    match firstToGo rest with
    | none => some q
    | some b => if goesBefore b q then some b else some q

/-- The frame chosen at an idle (R86, R103). -/
def chosen (s : State) : Option Posted := firstToGo (s.tie.queue.filter (eligible s.membership.station))

/-- An outlet number as a payload byte. -/
def outletByte (o : OutletNum) : Byte := BitVec.ofNat 8 o.val

/-- A station number as a payload byte. -/
def stationByte (n : StationNum) : Byte := BitVec.ofNat 8 n.val

/-- A priority in the 4 bits of a payload (R200). -/
def priorityField (p : Prio) : Fin 16 := ⟨p.val, by omega⟩

/-- What a posted frame carries in an attempt that starts now (R89). -/
def composeBody (s : State) (q : Posted) : FrameBody :=
  match q.item with
  | .shed l => .shed (BitVec.ofNat 8 l.val)
  | .restore => .restore
  | .snapshot t => .snapshot (stationByte t) (snapshotOf (ownDigest s) s.check s.replica)
  | .refuse t d => .refuse (stationByte t) d
  | .join d => .join d
  | .resync _ => .resync { digest := ownDigest s, bins := truthBins q.seq s, entries := declaredEntries s }
  | .leave => .leave
  | .forget t => .forget (stationByte t)
  | .started o => .started (outletByte o)
  | .cancel o => .cancel (outletByte o)
  | .release o p w => .release (outletByte o) (priorityField p) w
  | .claim o p w => .claim (outletByte o) (priorityField p) w
  | .presence => .presence s.check

/-- The attempt of a posted frame that starts now (R86, R89). -/
def attemptOf (s : State) (q : Posted) : Transmission :=
  let f : TieFrame := ⟨s.number, composeBody s q⟩
  { seq := q.seq, frame := f, wire := wireBits f }

/-- Whether an attempt can start: an ACTIVE interface at idle that neither sends nor receives (R86). -/
def atIdle (s : State) : Bool :=
  s.tie.mode == .active && s.tie.recessive == 12 && s.tie.tx.isNone && !s.tie.receiving

/-- An attempt started, if one can and a frame is eligible (R86). -/
def beginAttempt (s : State) : State :=
  if !atIdle s then s
  else
    match chosen s with
    | none => s
    | some q => { s with tie.tx := some (attemptOf s q), tie.recessive := 0 }

/-! ## Failed attempts (R72, R95, R96) -/

/-- The failed-attempt count of a posted frame set (R95). -/
def setFailed (seq : Nat) (n : Fin 4) (s : State) : State :=
  { s with tie.queue := s.tie.queue.map fun q => if q.seq == seq then { q with failed := n } else q }

/-- A frame has failed its fourth attempt (R72, R96). -/
def exhausted (q : Posted) (s : State) : State :=
  match s.membership.station with
  | .synced | .resyncing | .leaving => enterMute s
  | .joining =>
    let t := leaveQueue (fun p => p.seq == q.seq) s
    match q.item with
    | .join _ => endJoinAttempt t
    | _ => t
  | _ => s

/-- The posted frame of the attempt in flight. -/
def flying (s : State) : Option Posted :=
  match s.tie.tx with
  | some t => s.tie.queue.find? fun q => q.seq == t.seq
  | none => none

/-- The attempt in flight fails (R95, R96): a marked frame and the attempt of MUTE are withdrawn instead of retried. -/
def failAttempt (s : State) : State :=
  let t := { s with tie.tx := none }
  match flying s with
  | none => t
  | some q =>
    if q.marked || q.item == .resync true then endPostPending (leaveQueue (fun p => p.seq == q.seq) t)
    else if q.failed.val < 3 then setFailed q.seq (q.failed + 1) t
    else exhausted q (recordFault .sendFailed (setFailed q.seq 0 t))

/-- The attempt in flight loses arbitration (R87): a marked frame is withdrawn (R105), any other stays posted. -/
def loseArbitration (s : State) : State :=
  let t := { s with tie.tx := none, tie.receiving := true }
  match flying s with
  | none => t
  | some q => if q.marked then endPostPending (leaveQueue (fun p => p.seq == q.seq) t) else t

/-- The station stops sending (R100): the frame in flight leaves flight. One marked for withdrawal (R104, R105) is withdrawn: R100
leaves the queue to the response to CLOCK_UNLOCK, which in CONFIG is the record alone, and does not say whether a marked frame
stays posted there when its attempt is cut; the withdrawal is the model's choice (log entry 48). -/
def cutTransmission (s : State) : State :=
  let t := { s with tie.tx := none, tie.aborting := false }
  match flying s with
  | none => t
  | some q => if q.marked then leaveQueue (fun p => p.seq == q.seq) t else t

/-- The tie interface goes to OFF (R80, R100). -/
def tieOff (s : State) : State :=
  let t := cutTransmission s
  { t with tie.mode := .off, tie.receiving := false, tie.recessive := 0 }

/-! ## Vetoes (R92, R97, R98) -/

/-- A veto by this station counted; the eighth suppresses vetoing (R67, R97). -/
def countVeto (s : State) : State :=
  if s.tie.vetoRun.val < 7 then { s with tie.vetoRun := s.tie.vetoRun + 1 }
  else
    let t := recordFault .vetoLimit { s with tie.vetoRun := 8, tie.suppressed := true }
    if t.membership.station = .synced then enterResyncing .vetoLimit t else t

/-- A receiver at a veto slot sampled dominant (R92, R97, R98). -/
def receiveVetoed (rx : RawFrame) (s : State) : State :=
  if frameGood rx then
    if s.tie.suppressed then { s with tie.suppressed := false, tie.vetoRun := 0 } else s
  else if s.tie.mode = .active && !s.tie.suppressed then countVeto s
  else s

/-- A frame is discarded at its veto slot (R94). -/
def frameDiscarded (rx : RawFrame) (s : State) : State :=
  let t := if s.tie.tx.isSome then failAttempt s else receiveVetoed rx s
  finish (endReception { t with tie.recessive := 0 })

/-- A receiver finds a format error (R91). The abort mark that is itself the eighth counted veto runs to its end beside the
suppression that begins with it (R97, R98, log entry 41). -/
def malformed (dominantRun : Bool) (s : State) : State :=
  let t :=
    if s.tie.mode = .active && !s.tie.suppressed then
      let u := { s with tie.aborting := true }
      if dominantRun then u else countVeto u
    else s
  finish (endReception { t with tie.recessive := 0 })

/-- Twelve recessive bits have been read (R83). -/
def reachIdle (s : State) : State :=
  let t := { s with
    tie.mode := if s.tie.mode = .seeking then
      (if s.membership.station = .isolated then .listening else .active) else s.tie.mode
    tie.recessive := 12
    tie.aborting := false }
  finish (endReception t)

end Sys2Proof.Machine
end

