-- ==== Sys2Proof/Machine/BusCommands.lean ====
section
/-!
DEFINITION. The meanings of the tie bus commands beside acceptance (R83 to R98). A row whose event cannot occur in the state
leaves the state as it is (log entry 4).
-/
namespace Sys2Proof.Machine

/-- BUS_IDLE (R83): not with the interface OFF, nor while this station sends. -/
def execBusIdle (s : State) : Result :=
  actsOnBus (outsideReset fun t => if t.tie.mode == .off || t.tie.tx.isSome then t else reachIdle t) s

/-- START_ATTEMPT (R86, R89). -/
def execStartAttempt (s : State) : Result := actsOnBus (outsideReset beginAttempt) s

/-- ARBITRATION_LOST (R87). -/
def execArbitrationLost (s : State) : Result :=
  actsOnBus (outsideReset fun t => if t.tie.tx.isNone then t else finish (loseArbitration t)) s

/-- ABORT_MARK (R88): the sender's bit error; the attempt fails. R88 has the sender drive an abort mark and R98 a suppressed
interface drive none: a suppressed sender stops sending without a mark (log entry 47). -/
def execAbortMark (s : State) : Result :=
  actsOnBus (outsideReset fun t => if t.tie.tx.isNone then t
    else finish { failAttempt t with tie.aborting := !t.tie.suppressed, tie.recessive := 0 }) s

/-- FORMAT_ERROR (R91): at a receiver. -/
def execFormatError (dominantRun : Bool) (s : State) : Result :=
  actsOnBus (outsideReset fun t => if !delivers t || t.tie.tx.isSome then t else malformed dominantRun t) s

/-- FRAME_VETOED (R94): `rx` is the frame as this station received it; a sender does not look at it. -/
def execFrameVetoed (rx : RawFrame) (s : State) : Result :=
  actsOnBus (outsideReset fun t => if !delivers t then t else frameDiscarded rx t) s

end Sys2Proof.Machine
end

