-- ==== Sys2Proof/Machine/ClockUnit.lean ====
section
/-!
DEFINITION. The clock unit, resets and dormancy (chapter 10).
-/
namespace Sys2Proof.Machine

/-! ## Shed line and tie clock (R137) -/

/-- The line state with the tie clock stopped: a high line is held RECOVERING (R137). -/
def holdLine (s : State) : State :=
  { s with shed.line := if s.shed.line = .ready then .recovering else s.shed.line }

/-- The line state as the level of the line gives it after a reset or wake (R137). -/
def lineFromPin (s : State) : State :=
  { s with shed.line := if s.pins.shedLow then .asserted else .recovering }

/-! ## Starting and losing the PLL (R194, R195) -/

/-- The clock start of a JOIN with the PLL not LOCKED (R194): the lock limit of 5 ms begins. While the reference is STOPPED
no tick falls (R193) and the limit stands at 5 until an oscillator runs or LOCK_LIMIT_EXPIRY comes: the model's choice, log
entry 38. -/
def startClock (s : State) : State :=
  if !s.clock.running || s.settings.station.clock ≠ s.clock.source then
    { s with clock.lockLimit := some 5, clock.starting := some s.settings.station.clock }
  else { s with clock.lockLimit := some 5, clock.pll := .starting }

/-- A started oscillator runs and becomes the source in use (R194, R198). -/
def oscillatorRuns (s : State) : State :=
  match s.clock.starting with
  | none => s
  | some src =>
    { s with clock.source := src, clock.running := true, clock.starting := none,
             clock.pll := if s.settings.awaitingLock then .starting else s.clock.pll }

/-- The PLL locks (R194). -/
def pllLocks (s : State) : State :=
  if s.clock.pll = .starting then
    lockReported { s with clock.pll := .locked, clock.lockLimit := none }
  else s

/-- The start ends without lock (R194): a reference that does not run leaves the internal oscillator in use. -/
def lockFails (s : State) : State :=
  if s.clock.lockLimit.isNone then s
  else
    let t := { s with
      clock.pll := .stopped
      clock.lockLimit := none
      clock.starting := none
      clock.source := if s.clock.running then s.clock.source else .internal
      clock.running := true }
    unsealSettings (recordFault .clockUnlock t)

/-- A LOCKED PLL loses lock (R195). -/
def lockLost (s : State) : State :=
  let t := holdLine { s with clock.pll := .stopped, shed.driving := false }
  recordFault .clockUnlock (tieOff t)

/-- A crystal in use stops (R195). -/
def crystalStops (s : State) : State :=
  if s.clock.source = .internal || !s.clock.running then s
  else
    let t := { s with clock.source := .internal }
    match s.clock.pll with
    | .locked => lockLost t
    | .starting => lockFails t
    | .stopped => recordFault .clockUnlock t

/-! ## Dormancy (R166, R197, R198) -/

/-- The monitors stop (R166). -/
def stopMonitors (s : State) : State := { s with rail := s.rail.clearLive, reserve := s.reserve.clearLive }

/-- Entry to DORMANT (R197); without the tie clock a high line is held RECOVERING (R137, log entry 35). With keep-clock set a
reference that is still being started after an earlier wake goes on starting (log entry 44). -/
def enterDormant (keepClock : Bool) (s : State) : State :=
  let t := stopMonitors (tieOff s)
  let t := if keepClock then t
    else holdLine { t with clock.pll := .stopped, clock.running := false, clock.starting := none }
  enterStation .dormant .command t

/-- Wake by a falling edge of select (R178, R179, R198); it ends the execution of the DORMANT, if that was not at its end. -/
def wake (s : State) : State :=
  let t := unsealSettings (lineFromPin s)
  let t := if t.clock.running then t else { t with clock.starting := some t.settings.station.clock }
  let t := finish (enterStation .config .command { t with
    port.executing := none
    port.lastResponse := none
    port.responseBuffer := some .idle })
  { t with unexecuted := none }

/-! ## Reset (R196) -/

/-- An execution in progress is abandoned without its effect (R179): the station is the one that never had it, with the edges of
select as they came (log entry 7). -/
def abandonExecution (s : State) : State :=
  match s.unexecuted with
  | none => s
  | some x => { s with
      toStation := { x with port := { s.port with drainSet := x.port.drainSet, drained := x.port.drained } }
      unexecuted := none }

/-- What the start of either reset does at once (R196), and to the port where the reset is not the RESET command's
(R179). -/
def startReset (run : ResetRun) (s : State) : State :=
  let t := forOutlets openSwitches (abandonExecution s)
  { t with
    resetting := some run
    tie.tx := none
    tie.aborting := false
    tie.receiving := false
    shed.driving := false
    clock.pll := .stopped
    port.executing := none
    port.receiveBuffer := []
    port.responseBuffer := none
    port.discard := s.port.selectLow }

/-- The station when a reset completes (R22, R49, R51, R80, R104, R110, R137, R138, R168, R174, R177, R179, R192, R196):
every field at its reset value but the pins, the select level, the commands that wait and what a station reset keeps. The
response buffer holds IDLE, but for a transaction that began before the completion, which delivers no record or NOT_READY to
its end (R179, log entry 45). -/
def afterReset (cause : ResetCause) (address : StationNum) (s : State) : State :=
  let keep := cause != .powerOn
  refreshAttention (lineFromPin { State.reset with
    number := address
    pins := { s.pins with address := address }
    port := { State.reset.port with
      selectLow := s.port.selectLow
      discard := s.port.selectLow
      responseBuffer := if s.port.selectLow then s.port.responseBuffer else some .idle }
    rail.sticky := keep && s.rail.sticky
    reserve.sticky := keep && s.reserve.sticky
    report.status := if keep then s.report.status else 0#16
    report.first := if keep then s.report.first else none
    report.resetCause := cause
    pending := s.pending
    freeCount := s.freeCount })

/-- A reset completes, unless its input is still held low (R196). -/
def completeReset (address : StationNum) (s : State) : State :=
  match s.resetting with
  | some run => if run.held then s else afterReset run.cause address s
  | none => s

end Sys2Proof.Machine
end

