-- ==== Sys2Proof/Machine/ClockCommands.lean ====
section
/-!
DEFINITION. The meanings of the clock and reset commands (R194 to R196).
-/
namespace Sys2Proof.Machine

/-- PLL_LOCK (R194). -/
def execPllLock (s : State) : Result := actsOutsideReset (fun t => finish (pllLocks t)) s

/-- LOCK_LIMIT_EXPIRY (R194). -/
def execLockLimitExpiry (s : State) : Result := actsOutsideReset (fun t => finish (lockFails t)) s

/-- LOSS_OF_LOCK (R195). -/
def execLossOfLock (s : State) : Result :=
  actsOutsideReset (fun t => if t.clock.pll != .locked then t else finish (lockLost t)) s

/-- CRYSTAL_STOP (R195). -/
def execCrystalStop (s : State) : Result := actsOutsideReset (fun t => finish (crystalStops t)) s

/-- OSCILLATOR_RUNNING (R194, R198). -/
def execOscillatorRunning (s : State) : Result := actsOutsideReset oscillatorRuns s

/-- Whether the reset input is held low in a reset under way. -/
def resetHeld (s : State) : Bool :=
  match s.resetting with
  | some r => r.held
  | none => false

/-- POWER_ON_RESET (R196). -/
def execPowerOnReset (s : State) : Result := .next (startReset ⟨.powerOn, resetHeld s⟩ s)

/-- RESET_INPUT (R196): a power-on reset under way stays one. A reset of the RESET command becomes one of the reset input, and
the execution that answered NOT_READY ends with it (R179). Both are log entry 28. -/
def execResetInput (s : State) : Result :=
  .next (match s.resetting with
    | some ⟨.powerOn, _⟩ => { s with resetting := some ⟨.powerOn, true⟩ }
    | _ => startReset ⟨.resetInput, true⟩ s)

/-- RESET_INPUT_RELEASE (R196). -/
def execResetInputRelease (s : State) : Result :=
  .next (match s.resetting with
    | some r => { s with resetting := some ⟨r.cause, false⟩ }
    | none => s)

/-- RESET_COMPLETION (R196): the address pins as they stand at completion are latched. -/
def execResetCompletion (address : StationNum) (s : State) : Result := .next (completeReset address s)

end Sys2Proof.Machine
end

