-- ==== Sys2Proof/Machine/MonitorCommands.lean ====
section
/-!
DEFINITION. The meanings of the monitor commands (R159, R160, R164). A rise row carries the level of the sense input and the
ticks it has lasted, a fall row the level (log entry 10).
-/
namespace Sys2Proof.Machine

/-- Whether the comparators are read now (R166). -/
def comparatorsRead (s : State) : Bool := s.resetting.isNone && monitorsRun s

/-- The rail sense input has been at a level for a number of ticks (R159); at the filter time the live flag sets (R160). -/
def railSagReading (sense : Nat) (ticks : Nat) (s : State) : State :=
  let t := { s with pins.railSense := sense }
  if !comparatorsRead t then t
  else
    let u := readRail ticks t
    if railRiseDue u then finish (railRise u) else u

/-- RAIL_SAG_RISE (R159, R160). -/
def execRailSagRise (sense : Nat) (ticks : Nat) (s : State) : Result := acts (railSagReading sense ticks) s

/-- The rail sense input takes a level and is read at once (R159, R161). -/
def railReading (sense : Nat) (s : State) : State :=
  let t := { s with pins.railSense := sense }
  if comparatorsRead t then readRail 0 t else t

/-- RAIL_SAG_FALL (R159, R161). -/
def execRailSagFall (sense : Nat) (s : State) : Result := acts (railReading sense) s

/-- The reserve sense input has been at a level for a number of ticks (R164). -/
def reserveLowReading (sense : Nat) (ticks : Nat) (s : State) : State :=
  let t := { s with pins.reserveSense := sense }
  if !comparatorsRead t then t
  else
    let u := readReserve ticks t
    if reserveRiseDue u then finish (reserveRise u) else u

/-- RESERVE_LOW_RISE (R164). -/
def execReserveLowRise (sense : Nat) (ticks : Nat) (s : State) : Result := acts (reserveLowReading sense ticks) s

/-- The reserve sense input takes a level and is read at once (R164). -/
def reserveReading (sense : Nat) (s : State) : State :=
  let t := { s with pins.reserveSense := sense }
  if comparatorsRead t then readReserve 0 t else t

/-- RESERVE_LOW_FALL (R164). -/
def execReserveLowFall (sense : Nat) (s : State) : Result := acts (reserveReading sense) s

end Sys2Proof.Machine
end

