-- ==== Sys2Proof/Machine/OutletCommands.lean ====
section
/-!
DEFINITION. The meanings of the outlet timer and input commands (R114, R127 to R132).
-/
namespace Sys2Proof.Machine

/-- One bit of an input word set. -/
def setInput (v : BitVec 8) (o : OutletNum) (level : Bool) : BitVec 8 :=
  if level then v ||| (1#8 <<< o.val) else v &&& ~~~(1#8 <<< o.val)

/-- GAP_EXPIRY (R114). -/
def execGapExpiry (outlet : OutletNum) (s : State) : Result :=
  actsOutsideReset (fun t => finish (endGap outlet t)) s

/-- SETTLE_TIMER_EXPIRY (R128). -/
def execSettleTimerExpiry (outlet : OutletNum) (s : State) : Result :=
  actsOutsideReset (fun t => finish (endSettle outlet t)) s

/-- BLEED_EXPIRY (R132). -/
def execBleedExpiry (outlet : OutletNum) (s : State) : Result :=
  actsOutsideReset (fun t => finish (endBleed outlet t)) s

/-- The settle input takes a level (R127); it is heeded in SOFT on the weak path alone. -/
def settleInput (outlet : OutletNum) (asserted : Bool) (s : State) : State :=
  let t := { s with pins.settle := setInput s.pins.settle outlet asserted }
  if s.resetting.isSome then t
  else if asserted && s.outlets[outlet].state == .soft && s.outlets[outlet].path == .weak then
    finish (settleOutlet outlet t)
  else t

/-- SETTLE (R127). -/
def execSettle (outlet : OutletNum) (asserted : Bool) (s : State) : Result := acts (settleInput outlet asserted) s

/-- The trip input takes a level (R129); it is seen while a switch of the outlet is closed. -/
def tripInput (outlet : OutletNum) (asserted : Bool) (s : State) : State :=
  let t := { s with pins.trip := setInput s.pins.trip outlet asserted }
  if s.resetting.isSome then t else if asserted then finish (tripOutlet outlet t) else t

/-- TRIP (R129). -/
def execTrip (outlet : OutletNum) (asserted : Bool) (s : State) : Result := acts (tripInput outlet asserted) s

end Sys2Proof.Machine
end

