-- ==== Sys2Proof/Machine/PortUnit.lean ====
section
/-!
DEFINITION. The command port (chapter 8): falling and rising edges of select, execution, and the effects and answers of the
requests.
-/
namespace Sys2Proof.Machine

/-- What an execution answers: status and data (R173). -/
structure Answer where
  status : Status
  data : List Byte := []
deriving DecidableEq, Repr

/-- OK with no data. -/
def Answer.ok : Answer := ⟨.ok, []⟩

/-- BUSY (R173). -/
def Answer.busy : Answer := ⟨.busy, []⟩

/-- BAD_ARGUMENT (R173, R204). -/
def Answer.badArgument : Answer := ⟨.badArgument, []⟩

/-- REFUSED_STATE with its reason (R173). -/
def Answer.refuse (r : RefusalReason) : Answer := ⟨.refusedState, [BitVec.ofNat 8 r.code]⟩

/-! ## Edges of select (R170 to R172, R178, R179) -/

/-- A falling edge of select: the response buffer is loaded and the discard is decided (R171); in DORMANT the station wakes
(R198); during a reset the request is discarded, with NOT_READY for a RESET in execution (R179). -/
def fallingEdge (s : State) : State :=
  let t := { s with port.selectLow := true, port.receiveBuffer := [] }
  if s.resetting.isSome then
    { t with port.discard := true, port.responseBuffer := s.port.executing.map fun e => ⟨.notReady, e.code, []⟩ }
  else if s.membership.station = .dormant then
    let u := wake t
    { u with port.discard := true }
  else
    match s.port.executing with
    | some e => { t with port.discard := true, port.responseBuffer := some ⟨.notReady, e.code, []⟩ }
    | none => { t with port.discard := false, port.responseBuffer := some (s.port.lastResponse.getD .idle) }

/-- The falling edge that a request with select still high brings with it (log entry 6). -/
def ensureSelected (s : State) : State := if s.port.selectLow then s else fallingEdge s

/-- A transaction that carries a request (R170, R172): discarded as its falling edge decided, else executed at the rising
edge. -/
def transact (bytes : List Byte) (execute : State → State) (s : State) : State :=
  let t := ensureSelected s
  let u := { t with port.selectLow := false, port.discard := false }
  if t.port.discard then u else execute { u with port.receiveBuffer := bytes }

/-- An execution (R172): the effect in one step, and the execution-busy flag set with the response being formed. The station
without the effect stands beside it until the execution ends or a reset abandons it (R179, log entry 7). -/
def execute (code : Byte) (effect : State → State × Answer) (s : State) : State :=
  let (u, a) := effect s
  { u with
    port.executing := some ⟨code, some ⟨a.status, code, a.data⟩⟩
    unexecuted := some s.toStation }

/-- A request of correct form (R172, R203): its code and argument bytes, and what its execution does and answers. -/
def request (code : Byte) (args : List Byte) (effect : State → State × Answer) (s : State) : State :=
  transact (code :: BitVec.ofNat 8 args.length :: args) (execute code effect) s

/-- The execution ends (R172): the response is that of the last request executed, and the flag clears; the flag of a RESET
stays set until the reset is complete (R179). -/
def completeExecution (s : State) : State :=
  match s.port.executing with
  | some ⟨_, some r⟩ => { s with port.lastResponse := some r, port.executing := none, unexecuted := none }
  | _ => s

/-! ## The bytes on data out (R170, R203) -/

/-- A response record as bytes: status, echoed code, data length, data (R203). -/
def Response.bytes (r : Response) : List Byte :=
  [BitVec.ofNat 8 r.status.code, r.code, BitVec.ofNat 8 r.data.length] ++ r.data

/-- The byte at a position of a transaction's data out (R170): a byte of the response record loaded at the falling edge, all
ones past its end; none, data out not driven, while select is high or no record was loaded (R179). -/
def dataOutByte (position : Nat) (s : State) : Option Byte :=
  if s.port.selectLow then s.port.responseBuffer.map fun r => r.bytes.getD position 255#8 else none

/-- The bit of data out after a number of clocks, each byte most significant bit first (R170). -/
def dataOutBit (clocks : Nat) (s : State) : Option Bool :=
  (dataOutByte (clocks / 8) s).map fun b => b.getMsbD (clocks % 8)

/-! ## Argument checks and state checks -/

/-- A request that reads: the state is unchanged. -/
def reading (a : State → Answer) (s : State) : State × Answer := (s, a s)

/-- A check before an effect: where it gives an answer, the request is refused and changes nothing (R173). -/
def guardedBy (check : State → Option Answer) (effect : State → State) (s : State) : State × Answer :=
  match check s with
  | some a => (s, a)
  | none => (effect s, .ok)

/-- The check of R174: configuration is taken in CONFIG while not awaiting lock. -/
def configCheck (s : State) : Option Answer :=
  if s.membership.station ≠ .config then some (.refuse .stationState)
  else if s.settings.awaitingLock then some .busy
  else none

/-! ## Configuration (R174) -/

/-- SET_SHARED. -/
def setSharedEffect (r : RawShared) (s : State) : State × Answer :=
  match checkShared r with
  | none => (s, .badArgument)
  | some c => guardedBy configCheck (fun t => { t with settings.shared := c }) s

/-- SET_OUTLET. -/
def setOutletEffect (r : RawOutlet) (s : State) : State × Answer :=
  match checkOutlet r with
  | none => (s, .badArgument)
  | some (o, c) => guardedBy configCheck (setOutlet o fun x => { x with config := c }) s

/-- Whether a change of the filter in force sets the rail live flag at that instant: the last reading, by the threshold as it
was, reported sag, and the count has reached the new filter time (R159, log entry 29). -/
def filterRiseDue (c : StationSettings) (s : State) : Bool :=
  let t := { s with settings.station := c }
  railFilterTime t != railFilterTime s && monitorsRun s && railLow s && !s.rail.live && railFilterTime t ≤ s.rail.count.val

/-- The station-local record stored: the attention line follows the mask (R187), a shorter filter in force can set the rail
live flag at that instant, and the next reading, one reference cycle later, is made with the new thresholds: it clears a live
flag that they end (R156, R159, R164). -/
def storeLocal (c : StationSettings) (s : State) : State :=
  let t := refreshAttention { s with settings.station := c }
  readMonitors 0 (if filterRiseDue c s then finish (railRise t) else t)

/-- SET_LOCAL. -/
def setLocalEffect (r : RawLocal) (s : State) : State × Answer :=
  match checkLocal r with
  | none => (s, .badArgument)
  | some c => guardedBy configCheck (storeLocal c) s

/-! ## Joining (R54, R175) -/

/-- Whether an enabled outlet is oversize or heavier than the effective station cap (R16, R175). -/
def anyOversize (s : State) : Bool :=
  allOutlets.any fun o =>
    s.outlets[o].config.enabled && oversize s.settings.shared s.outlets[o].config.priority s.outlets[o].config.weight

/-- The conditions of JOIN in order (R175). -/
def joinCheck (s : State) : Option Answer :=
  if s.membership.station ≠ .config then some (.refuse .stationState)
  else if s.settings.awaitingLock then some .busy
  else if s.settings.shared.capacity = 0 then some (.refuse .capacityZero)
  else if anyOversize s then some .badArgument
  else if !placeFree .membership s then some .busy
  else none

/-- The shared settings with the cap in its effective form (R12). -/
def sealedSettings (c : SharedSettings) : SharedSettings := { c with cap := effectiveCap c }

/-- An accepted JOIN (R12, R13, R54, R175, R194). -/
def beginJoin (s : State) : State :=
  let c := sealedSettings s.settings.shared
  let t := { s with
    settings.shared := c
    settings.digest := some (digestOf c)
    membership.attempt := 1
    membership.foundingMark := false
    membership.remembered := 0#16 }
  let t := forStations (fun n => setPeer n fun x => { x with refusal := none }) t
  finish (if t.clock.pll = .locked then lockReported t
    else startClock { t with settings.awaitingLock := true })

/-! ## Reads (R48, R180, R181, R203) -/

/-- The flags byte of the STATUS part. -/
def statusFlags (s : State) : Byte :=
  flagsByte s.settings.digest.isSome s.settings.awaitingLock s.port.drained s.rail.live s.rail.sticky s.reserve.live
    s.reserve.sticky s.report.attention

/-- The total as READ_STATUS returns it: saturated at 65,535 (R4). -/
def reportedTotal (s : State) : Nat := min (accountTotal s.replica) 65535

/-- The STATUS part. -/
def statusBytes (s : State) : List Byte :=
  bytesMsb 1 s.membership.station.code ++ bytesMsb 1 s.number.val ++ bytesMsb 1 s.report.resetCause.code
    ++ [statusFlags s] ++ bytesMsb 1 s.replica.shedLevel.val ++ bytesMsb 1 s.shed.localCount.val
    ++ bytesMsb 2 (reportedTotal s) ++ bytesMsb 2 s.settings.shared.capacity.val ++ halfBytes s.replica.members
    ++ bytesMsb 1 s.report.events.length ++ bytesMsb 1 s.report.overflow.toNat

/-- READ_STATUS. -/
def readStatusAnswer (part : Byte) (s : State) : Answer :=
  match part.toNat with
  | 0 => ⟨.ok, statusBytes s⟩
  | 1 => ⟨.ok, sharedBytes s.settings.shared ++ halfBytes (s.settings.digest.getD (digestOf s.settings.shared))⟩
  | 2 => ⟨.ok, localBytes s.settings.station⟩
  | _ => .badArgument

/-- Whether a frame of an outlet is posted. -/
def outletPosted (o : OutletNum) (s : State) : Bool := s.tie.queue.any fun q => placeOf q.item == .outlet o

/-- The outlet record as READ_OUTLET returns it. -/
def outletBytes (o : OutletNum) (s : State) : List Byte :=
  let x := s.outlets[o]
  outletConfigBytes x.config ++ bytesMsb 1 x.state.code ++ bytesMsb 1 x.path.code ++ bytesMsb 1 (heldCode x.heldAs)
    ++ bytesMsb 1 x.standing.code
    ++ [flagsByte false false false false false x.due.isSome (outletPosted o s) x.claimOutstanding]

/-- READ_OUTLET. -/
def readOutletAnswer (b : Byte) (s : State) : Answer :=
  match outletOf b with
  | some o => ⟨.ok, outletBytes o s⟩
  | none => .badArgument

/-- READ_ROW. -/
def readRowAnswer (b : Byte) (s : State) : Answer :=
  match stationOf b with
  | some n => ⟨.ok, binBlockBytes s.replica.rows[n] ++ bytesMsb 2 (rowTotal s.replica.rows[n])⟩
  | none => .badArgument

/-- READ_WAIT and READ_START: the count, then the entry at the index if one stands there (R48). -/
def listAnswer (l : List Entry) (index : Byte) : Answer :=
  ⟨.ok, bytesMsb 1 l.length ++ (match l[index.toNat]? with | some e => e.bytes | none => [])⟩

/-- READ_PEER. -/
def readPeerAnswer (b : Byte) (s : State) : Answer :=
  match stationOf b with
  | some n =>
    let x := s.membership.peers[n]
    ⟨.ok, bytesMsb 1 x.presence.code ++ bytesMsb 2 x.silence ++ bytesMsb 1 x.duty.code
      ++ bytesMsb 1 x.refusal.isSome.toNat ++ halfBytes (x.refusal.getD 0#16)⟩
  | none => .badArgument

/-- READ_EVENT: the overflow flag, then the record at the head if any (R185). -/
def readEventAnswer (s : State) : Answer :=
  ⟨.ok, bytesMsb 1 s.report.overflow.toNat
    ++ (match s.report.events.head? with | some e => e.bytes | none => [])⟩

/-- READ_FAULTS. -/
def readFaultsAnswer (s : State) : Answer :=
  ⟨.ok, halfBytes s.report.status ++ halfBytes s.settings.station.mask ++ halfBytes s.settings.station.severity
    ++ [match s.report.first with | some f => BitVec.ofNat 8 f.num.val | none => 16#8]⟩

/-! ## Clearing, MARK, DORMANT (R165, R177, R178) -/

/-- The check of CLEAR_STICKY (R165). -/
def clearStickyCheck (s : State) : Option Answer :=
  if s.rail.live then some (.refuse .railSag) else if s.reserve.live then some (.refuse .reserveLow) else none

/-- CLEAR_STICKY carried out (R165). -/
def clearSticky (s : State) : State := { s with rail.sticky := false, reserve.sticky := false }

/-- MARK (R177). -/
def markEffect (s : State) : State × Answer :=
  let taken := s.tie.queue.map Posted.seq
  ({ s with port.drainSet := taken, port.drained := taken.isEmpty }, ⟨.ok, bytesMsb 1 taken.length⟩)

/-- The keep-clock argument (R178, R203). -/
def keepClockOf (b : Byte) : Option Bool := if b = 0#8 then some false else if b = 1#8 then some true else none

/-- The check of DORMANT (R178). -/
def dormantCheck (s : State) : Option Answer :=
  if s.membership.station ≠ .config ∧ s.membership.station ≠ .refused then some (.refuse .stationState)
  else if s.settings.awaitingLock || !s.tie.queue.isEmpty then some .busy
  else none

/-- DORMANT. -/
def dormantEffect (b : Byte) (s : State) : State × Answer :=
  match keepClockOf b with
  | none => (s, .badArgument)
  | some keep => guardedBy dormantCheck (fun t => finish (enterDormant keep t)) s

/-! ## Outlets (R117 to R121) -/

/-- The answer of OUTLET_ON that changes nothing; none where the outlet is claimed (R117). -/
def outletOnCheck (o : OutletNum) (s : State) : Option Answer :=
  let x := s.outlets[o]
  if s.membership.station ≠ .synced then
    if x.config.enabled then some (.refuse .stationState) else some .badArgument
  else
    match x.state with
    | .off | .shed =>
      if !x.config.enabled then some .badArgument
      else if belowLevel s.replica.shedLevel.val o s then some (.refuse .shedLevel)
      else none
    | .stopping | .cancelling => some .busy
    | .fault => some (.refuse .outletState)
    | _ => some .ok

/-- OUTLET_ON. -/
def outletOnEffect (b : Byte) (s : State) : State × Answer :=
  match outletOf b with
  | none => (s, .badArgument)
  | some o => guardedBy (outletOnCheck o) (fun t => finish (claimOutlet .command o t)) s

/-- OUTLET_OFF. -/
def outletOffEffect (b : Byte) (s : State) : State × Answer :=
  match outletOf b with
  | none => (s, .badArgument)
  | some o => (finish (turnOff o s), .ok)

/-- OUTLET_CLEAR. -/
def outletClearEffect (b : Byte) (s : State) : State × Answer :=
  match outletOf b with
  | none => (s, .badArgument)
  | some o =>
    if s.outlets[o].state ≠ .fault then (s, .ok)
    else if faultAnswered o s then (finish (enterOutlet .off .command o s), .ok)
    else (s, .busy)

/-! ## Shedding and membership (R141, R151, R176) -/

/-- A check that the station is SYNCED. -/
def syncedCheck (s : State) : Option Answer :=
  if s.membership.station = .synced then none else some (.refuse .stationState)

/-- The conditions of RESTORE in order (R151). -/
def restoreCheck (s : State) : Option Answer :=
  if s.membership.station ≠ .synced then some (.refuse .stationState)
  else if s.rail.live then some (.refuse .railSag)
  else if !placeFree .shed s || s.shed.postPending then some .busy
  else none

/-- Whether every own outlet is OFF (R176). -/
def allOff (s : State) : Bool := allOutlets.all fun o => s.outlets[o].state == .off

/-- The conditions of LEAVE in order (R176). -/
def leaveCheck (s : State) : Option Answer :=
  match s.membership.station with
  | .refused => none
  | .synced =>
    if !allOff s then some (.refuse .outletNotOff) else if !placeFree .membership s then some .busy else none
  | _ => some (.refuse .stationState)

/-- LEAVE carried out (R50, R76). -/
def beginLeave (s : State) : State :=
  if s.membership.station = .refused then enterConfig .command s
  else enterStation .leaving .command (leaveSynced .leaving (post .leave s))

/-- The conditions of FORGET in order (R176). -/
def forgetCheck (t : StationNum) (s : State) : Option Answer :=
  if s.membership.station ≠ .synced then some (.refuse .stationState)
  else if t = s.number ∨ s.membership.peers[t].presence ≠ .lost then some (.refuse .forgetTarget)
  else if !placeFree .membership s then some .busy
  else none

/-- FORGET. -/
def forgetEffect (b : Byte) (s : State) : State × Answer :=
  match stationOf b with
  | none => (s, .badArgument)
  | some t => guardedBy (forgetCheck t) (post (.forget t)) s

end Sys2Proof.Machine
end

