-- ==== Sys2Proof/Machine/PortCommands.lean ====
section
/-!
DEFINITION. The meanings of the command port's commands (chapter 8): a transaction's start, malformed requests, the 26
requests, and the end of an execution.
-/
namespace Sys2Proof.Machine

/-- TRANSACTION_START (R171): a falling edge of select. With select already low, an empty transaction ends first (R170). -/
def execTransactionStart (s : State) : Result := .next (fallingEdge s)

/-- BAD_FORMAT (R172, R203): the first byte captured is echoed, or 255. A request of which no whole byte was captured has no
code: the NOT_READY records given while it executes echo 255 too (R171, log entry 42). -/
def execBadFormat (bytes : List Byte) (_brokenBits : Fin 8) (s : State) : Result :=
  .next (transact bytes (execute (bytes.headD 255#8) fun t => (t, ⟨.badFormat, []⟩)) s)

/-- NOP (R181). -/
def execNop (s : State) : Result := .next (request 0#8 [] (reading fun _ => .ok) s)

/-- SET_SHARED (R174). -/
def execSetShared (r : RawShared) (s : State) : Result :=
  .next (request 1#8 (rawSharedBytes r) (setSharedEffect r) s)

/-- SET_OUTLET (R174). -/
def execSetOutlet (r : RawOutlet) (s : State) : Result :=
  .next (request 2#8 (rawOutletBytes r) (setOutletEffect r) s)

/-- SET_LOCAL (R174). -/
def execSetLocal (r : RawLocal) (s : State) : Result :=
  .next (request 3#8 (rawLocalBytes r) (setLocalEffect r) s)

/-- JOIN (R54, R175). -/
def execJoin (s : State) : Result := .next (request 4#8 [] (guardedBy joinCheck beginJoin) s)

/-- READ_STATUS (R180). -/
def execReadStatus (part : Byte) (s : State) : Result := .next (request 5#8 [part] (reading (readStatusAnswer part)) s)

/-- READ_OUTLET (R110, R181). -/
def execReadOutlet (outlet : Byte) (s : State) : Result :=
  .next (request 6#8 [outlet] (reading (readOutletAnswer outlet)) s)

/-- READ_ROW (R48, R181). -/
def execReadRow (row : Byte) (s : State) : Result := .next (request 7#8 [row] (reading (readRowAnswer row)) s)

/-- READ_WAIT (R48). -/
def execReadWait (index : Byte) (s : State) : Result :=
  .next (request 8#8 [index] (reading fun t => listAnswer t.replica.wait index) s)

/-- READ_START (R48). -/
def execReadStart (index : Byte) (s : State) : Result :=
  .next (request 9#8 [index] (reading fun t => listAnswer t.replica.start index) s)

/-- READ_PEER (R51, R181). -/
def execReadPeer (peer : Byte) (s : State) : Result := .next (request 10#8 [peer] (reading (readPeerAnswer peer)) s)

/-- READ_EVENT (R185). -/
def execReadEvent (s : State) : Result := .next (request 11#8 [] (fun t => (takeEvent t, readEventAnswer t)) s)

/-- READ_FAULTS (R181). -/
def execReadFaults (s : State) : Result := .next (request 12#8 [] (reading readFaultsAnswer) s)

/-- CLEAR_FAULTS (R190). -/
def execClearFaults (faults : Half) (s : State) : Result :=
  .next (request 13#8 (halfBytes faults) (fun t => (clearFaults faults t, .ok)) s)

/-- CLEAR_STICKY (R165). -/
def execClearSticky (s : State) : Result := .next (request 14#8 [] (guardedBy clearStickyCheck clearSticky) s)

/-- MARK (R177). -/
def execMark (s : State) : Result := .next (request 15#8 [] markEffect s)

/-- RESET (R179): the station reset begins at the execution, and the flag stays set. -/
def execReset (s : State) : Result :=
  .next (transact [16#8, 0#8]
    (fun t => { startReset ⟨.resetCommand, false⟩ t with port.executing := some ⟨16#8, none⟩ }) s)

/-- DORMANT (R178, R197). -/
def execDormant (keepClock : Byte) (s : State) : Result :=
  .next (request 17#8 [keepClock] (dormantEffect keepClock) s)

/-- OUTLET_ON (R117). -/
def execOutletOn (outlet : Byte) (s : State) : Result := .next (request 18#8 [outlet] (outletOnEffect outlet) s)

/-- OUTLET_OFF (R118 to R121). -/
def execOutletOff (outlet : Byte) (s : State) : Result := .next (request 19#8 [outlet] (outletOffEffect outlet) s)

/-- OUTLET_CLEAR (R121). -/
def execOutletClear (outlet : Byte) (s : State) : Result :=
  .next (request 20#8 [outlet] (outletClearEffect outlet) s)

/-- SHED, the command (R141). -/
def execShed (s : State) : Result := .next (request 21#8 [] (guardedBy syncedCheck fun t => finish (demand t)) s)

/-- RESTORE, the command (R151). -/
def execRestore (s : State) : Result := .next (request 22#8 [] (guardedBy restoreCheck (post .restore)) s)

/-- LEAVE, the command (R76, R176). -/
def execLeave (s : State) : Result := .next (request 23#8 [] (guardedBy leaveCheck fun t => finish (beginLeave t)) s)

/-- FORGET, the command (R78, R176). -/
def execForget (target : Byte) (s : State) : Result := .next (request 24#8 [target] (forgetEffect target) s)

/-- RESYNC, the command (R67, R176). -/
def execResync (s : State) : Result :=
  .next (request 25#8 [] (guardedBy syncedCheck fun t => finish (enterResyncing .command t)) s)

/-- EXECUTION_COMPLETE (R172). -/
def execExecutionComplete (s : State) : Result := .next (completeExecution s)

end Sys2Proof.Machine
end

