-- ==== Sys2Proof/Machine/ShedCommands.lean ====
section
/-!
DEFINITION. The meanings of the shed line and shed timer commands (R137, R139, R140, R146). In DORMANT and during a reset
the line is not watched and its level alone is kept (log entry 35).
-/
namespace Sys2Proof.Machine

/-- Whether the shed unit watches the line (R137). -/
def watchesLine (s : State) : Bool := s.resetting.isNone && s.membership.station != .dormant

/-- A fall of the line from READY (R137, R142, R143, R146), counted in the active states. -/
def fallFromReady (s : State) : State :=
  if !watchesLine s then setLineLevel true s
  else if s.shed.line = .ready then
    let t := { setLineLevel true s with shed.line := .asserted }
    if following t then finish (startFrameWait (countPulse t)) else t
  else s

/-- SHED_PULSE (R137). -/
def execShedPulse (s : State) : Result := acts fallFromReady s

/-- SHED_LINE_READY (R137): 0.5 ms of high line, timed on the tie clock. -/
def execShedLineReady (s : State) : Result :=
  acts (fun t => if watchesLine t && t.shed.line == .recovering && t.clock.pll == .locked then { t with shed.line := .ready }
    else t) s

/-- PULSE_DRIVE_END (R139). -/
def execPulseDriveEnd (s : State) : Result := acts (fun t => { t with shed.driving := false }) s

/-- STEP_TIMER_EXPIRY (R140). -/
def execStepTimerExpiry (s : State) : Result := actsOutsideReset (fun t => finish (endStep t)) s

/-- SHED_FRAME_WAIT_EXPIRY (R146). -/
def execShedFrameWaitExpiry (s : State) : Result := actsOutsideReset endFrameWait s

/-- A rise of the line (R137): not while this station drives it. -/
def riseOfLine (s : State) : State :=
  if !watchesLine s then setLineLevel false s
  else if s.shed.driving then s
  else if s.shed.line = .asserted then { setLineLevel false s with shed.line := .recovering }
  else s

/-- SHED_LINE_RISE (R137). -/
def execShedLineRise (s : State) : Result := acts riseOfLine s

/-- A fall of the line while RECOVERING (R137). -/
def fallWhileRecovering (s : State) : State :=
  if !watchesLine s then setLineLevel true s
  else if s.shed.line = .recovering then { setLineLevel true s with shed.line := .asserted }
  else s

/-- UNCOUNTED_SHED_FALL (R137). -/
def execUncountedShedFall (s : State) : Result := acts fallWhileRecovering s

end Sys2Proof.Machine
end

