-- ==== Sys2Proof/Machine/TimerCommands.lean ====
section
/-!
DEFINITION. The membership timers (R53, R57, R71 to R74) and the meanings of their commands. An expiry row acts whenever its
timer runs (log entry 5).
-/
namespace Sys2Proof.Machine

/-- The presence timer reaches one presence interval (R53): PRESENCE is posted unless one is posted. -/
def presenceExpires (s : State) : State := if s.membership.presenceTimer.isSome then postPresence s else s

/-- A presence interval has passed in MUTE (R73): one RESYNC attempt, unless an own outlet is in SOFT. -/
def muteAttempt (s : State) : State :=
  if s.membership.muteTimer.isNone then s
  else
    let t := { s with membership.muteTimer := some (presenceInterval s) }
    if anySoft t then t else post (.resync true) t

/-- The isolation timer expires (R74). -/
def isolationExpires (s : State) : State :=
  if s.membership.isolationTimer.isNone then s
  else finish (enterIsolated .isolation (recordFault .isolationTimeout s))

/-- SNAPSHOT_WAIT_EXPIRY (R57, R71): `receiving` says whether a frame is being received at the expiry. -/
def execSnapshotWaitExpiry (receiving : Bool) (s : State) : Result :=
  actsOutsideReset (fun t => finish (snapshotWaitExpires receiving t)) s

/-- PRESENCE_TIMER_EXPIRY (R53). -/
def execPresenceTimerExpiry (s : State) : Result := actsOutsideReset presenceExpires s

/-- SILENCE_TIMEOUT (R52). -/
def execSilenceTimeout (peer : StationNum) (s : State) : Result :=
  actsOutsideReset (fun t => finish (losePeer peer t)) s

/-- MUTE_RESYNC_ATTEMPT (R73). -/
def execMuteResyncAttempt (s : State) : Result := actsOutsideReset muteAttempt s

/-- ISOLATION_TIMER_EXPIRY (R74). -/
def execIsolationTimerExpiry (s : State) : Result := actsOutsideReset isolationExpires s

end Sys2Proof.Machine
end

