-- ==== Sys2Proof/Machine/Dispatch.lean ====
section
/-!
DEFINITION. The meaning of every command, one arm per constructor of `Instr`.
-/
namespace Sys2Proof.Machine

/-- The effect of a command on everything but the queue of waiting commands. -/
def exec (i : Instr) (s : State) : Host.Outcome State Fault Refusal :=
  match i with
  | .transactionStart => Sys2Proof.Machine.execTransactionStart s
  | .badFormat bytes brokenBits => Sys2Proof.Machine.execBadFormat bytes brokenBits s
  | .nop => Sys2Proof.Machine.execNop s
  | .setShared r => Sys2Proof.Machine.execSetShared r s
  | .setOutlet r => Sys2Proof.Machine.execSetOutlet r s
  | .setLocal r => Sys2Proof.Machine.execSetLocal r s
  | .join => Sys2Proof.Machine.execJoin s
  | .readStatus part => Sys2Proof.Machine.execReadStatus part s
  | .readOutlet outlet => Sys2Proof.Machine.execReadOutlet outlet s
  | .readRow row => Sys2Proof.Machine.execReadRow row s
  | .readWait index => Sys2Proof.Machine.execReadWait index s
  | .readStart index => Sys2Proof.Machine.execReadStart index s
  | .readPeer peer => Sys2Proof.Machine.execReadPeer peer s
  | .readEvent => Sys2Proof.Machine.execReadEvent s
  | .readFaults => Sys2Proof.Machine.execReadFaults s
  | .clearFaults faults => Sys2Proof.Machine.execClearFaults faults s
  | .clearSticky => Sys2Proof.Machine.execClearSticky s
  | .mark => Sys2Proof.Machine.execMark s
  | .reset => Sys2Proof.Machine.execReset s
  | .dormant keepClock => Sys2Proof.Machine.execDormant keepClock s
  | .outletOn outlet => Sys2Proof.Machine.execOutletOn outlet s
  | .outletOff outlet => Sys2Proof.Machine.execOutletOff outlet s
  | .outletClear outlet => Sys2Proof.Machine.execOutletClear outlet s
  | .shed => Sys2Proof.Machine.execShed s
  | .restore => Sys2Proof.Machine.execRestore s
  | .leave => Sys2Proof.Machine.execLeave s
  | .forget target => Sys2Proof.Machine.execForget target s
  | .resync => Sys2Proof.Machine.execResync s
  | .busIdle => Sys2Proof.Machine.execBusIdle s
  | .startAttempt => Sys2Proof.Machine.execStartAttempt s
  | .arbitrationLost => Sys2Proof.Machine.execArbitrationLost s
  | .abortMark => Sys2Proof.Machine.execAbortMark s
  | .formatError dominantRun => Sys2Proof.Machine.execFormatError dominantRun s
  | .frameVetoed rx => Sys2Proof.Machine.execFrameVetoed rx s
  | .acceptShed sender level => Sys2Proof.Machine.execAcceptShed sender level s
  | .acceptRestore sender => Sys2Proof.Machine.execAcceptRestore sender s
  | .acceptSnapshot sender target content => Sys2Proof.Machine.execAcceptSnapshot sender target content s
  | .acceptRefuse sender target digest => Sys2Proof.Machine.execAcceptRefuse sender target digest s
  | .acceptJoin sender digest => Sys2Proof.Machine.execAcceptJoin sender digest s
  | .acceptResync sender content => Sys2Proof.Machine.execAcceptResync sender content s
  | .acceptLeave sender => Sys2Proof.Machine.execAcceptLeave sender s
  | .acceptForget sender target => Sys2Proof.Machine.execAcceptForget sender target s
  | .acceptStarted sender outlet => Sys2Proof.Machine.execAcceptStarted sender outlet s
  | .acceptCancel sender outlet => Sys2Proof.Machine.execAcceptCancel sender outlet s
  | .acceptRelease sender outlet priority weight => Sys2Proof.Machine.execAcceptRelease sender outlet priority weight s
  | .acceptClaim sender outlet priority weight => Sys2Proof.Machine.execAcceptClaim sender outlet priority weight s
  | .acceptPresence sender check => Sys2Proof.Machine.execAcceptPresence sender check s
  | .snapshotWaitExpiry receiving => Sys2Proof.Machine.execSnapshotWaitExpiry receiving s
  | .presenceTimerExpiry => Sys2Proof.Machine.execPresenceTimerExpiry s
  | .silenceTimeout peer => Sys2Proof.Machine.execSilenceTimeout peer s
  | .muteResyncAttempt => Sys2Proof.Machine.execMuteResyncAttempt s
  | .isolationTimerExpiry => Sys2Proof.Machine.execIsolationTimerExpiry s
  | .gapExpiry outlet => Sys2Proof.Machine.execGapExpiry outlet s
  | .settleTimerExpiry outlet => Sys2Proof.Machine.execSettleTimerExpiry outlet s
  | .bleedExpiry outlet => Sys2Proof.Machine.execBleedExpiry outlet s
  | .settle outlet asserted => Sys2Proof.Machine.execSettle outlet asserted s
  | .trip outlet asserted => Sys2Proof.Machine.execTrip outlet asserted s
  | .shedPulse => Sys2Proof.Machine.execShedPulse s
  | .shedLineReady => Sys2Proof.Machine.execShedLineReady s
  | .pulseDriveEnd => Sys2Proof.Machine.execPulseDriveEnd s
  | .stepTimerExpiry => Sys2Proof.Machine.execStepTimerExpiry s
  | .shedFrameWaitExpiry => Sys2Proof.Machine.execShedFrameWaitExpiry s
  | .railSagRise sense ticks => Sys2Proof.Machine.execRailSagRise sense ticks s
  | .railSagFall sense => Sys2Proof.Machine.execRailSagFall sense s
  | .reserveLowRise sense ticks => Sys2Proof.Machine.execReserveLowRise sense ticks s
  | .reserveLowFall sense => Sys2Proof.Machine.execReserveLowFall sense s
  | .pllLock => Sys2Proof.Machine.execPllLock s
  | .lockLimitExpiry => Sys2Proof.Machine.execLockLimitExpiry s
  | .lossOfLock => Sys2Proof.Machine.execLossOfLock s
  | .crystalStop => Sys2Proof.Machine.execCrystalStop s
  | .powerOnReset => Sys2Proof.Machine.execPowerOnReset s
  | .resetInput => Sys2Proof.Machine.execResetInput s
  | .resetCompletion address => Sys2Proof.Machine.execResetCompletion address s
  | .executionComplete => Sys2Proof.Machine.execExecutionComplete s
  | .shedLineRise => Sys2Proof.Machine.execShedLineRise s
  | .uncountedShedFall => Sys2Proof.Machine.execUncountedShedFall s
  | .oscillatorRunning => Sys2Proof.Machine.execOscillatorRunning s
  | .resetInputRelease => Sys2Proof.Machine.execResetInputRelease s

end Sys2Proof.Machine
end

