-- ==== Sys2Proof/Machine/Tick.lean ====
section
/-!
DEFINITION. The millisecond tick (R193): every running timer one tick on, the comparators read, the silence counts advanced,
and then what fell due, one after another in an order the manual leaves open (log entries 1 and 2).
-/
namespace Sys2Proof.Machine

/-- What can fall due at a tick. -/
inductive DueEvent where
  | gap (o : OutletNum) | settle (o : OutletNum) | bleed (o : OutletNum)
  | snapshotWait | presence | silence (n : StationNum) | mute | isolation
  | lockLimit | step | frameWait | railSag | reserveLow
deriving DecidableEq, Repr

/-- Whether a peer's silence count has reached the silence time (R52). -/
def silenceDue (s : State) (n : StationNum) : Bool :=
  following s && s.membership.peers[n].presence == .present && silenceTime s ≤ s.membership.peers[n].silence

/-- Whether an event is due (R110, R52, R159). -/
def eventDue (s : State) : DueEvent → Bool
  | .gap o => isDue s.outlets[o].gap
  | .settle o => isDue s.outlets[o].settle
  | .bleed o => isDue s.outlets[o].bleed
  | .snapshotWait => isDue s.membership.snapshotWait
  | .presence => isDue s.membership.presenceTimer
  | .silence n => silenceDue s n
  | .mute => isDue s.membership.muteTimer
  | .isolation => isDue s.membership.isolationTimer
  | .lockLimit => isDue s.clock.lockLimit
  | .step => isDue s.shed.stepTimer
  | .frameWait => isDue s.shed.frameWait
  | .railSag => monitorsRun s && railRiseDue s
  | .reserveLow => monitorsRun s && reserveRiseDue s

/-- Every event that can fall due. -/
def allDueEvents : List DueEvent :=
  allOutlets.map .gap ++ allOutlets.map .settle ++ allOutlets.map .bleed ++ allStations.map .silence
    ++ [.snapshotWait, .presence, .mute, .isolation, .lockLimit, .step, .frameWait, .railSag, .reserveLow]

/-- The snapshot wait has run out at a tick: whether another station's frame is being received, where that can be, is known
where a row has told of one, else it is a free value (R57, log entry 39). -/
def waitRunsOut (s : State) : State :=
  if s.tie.receiving || !canReceive s then snapshotWaitExpires false s
  else snapshotWaitExpires (Config.frameOnBus s.freeCount) { s with freeCount := s.freeCount + 1 }

/-- The treatment of an event, if it is still due when its turn comes. -/
def treatDue (e : DueEvent) (s : State) : State :=
  if !eventDue s e then s
  else
    match e with
    | .gap o => finish (endGap o s)
    | .settle o => finish (endSettle o s)
    | .bleed o => finish (endBleed o s)
    | .snapshotWait => finish (waitRunsOut s)
    | .presence => presenceExpires s
    | .silence n => finish (losePeer n s)
    | .mute => muteAttempt s
    | .isolation => isolationExpires s
    | .lockLimit => finish (lockFails s)
    | .step => finish (endStep s)
    | .frameWait => endFrameWait s
    | .railSag => finish (railRise s)
    | .reserveLow => finish (reserveRise s)

/-- The due events treated one after another; among several the free value `Config.tickOrder` says which is next. -/
def treatAllDue : Nat → List DueEvent → State → State
  | 0, _, s => s
  | _ + 1, [], s => s
  | _ + 1, [e], s => treatDue e s
  | fuel + 1, events, s =>
    let k := Config.tickOrder s.freeCount % events.length
    match events[k]? with
    | some e => treatAllDue fuel (events.eraseIdx k) (treatDue e { s with freeCount := s.freeCount + 1 })
    | none => s

/-- The timers of one outlet one tick on. -/
def Outlet.advance (x : Outlet) : Outlet :=
  { x with gap := runDown x.gap, settle := runDown x.settle, bleed := runDown x.bleed }

/-- The silence count of a PRESENT peer one tick on (R52). -/
def Peer.advance (p : Peer) : Peer := if p.presence = .present then { p with silence := p.silence + 1 } else p

/-- Every timer and silence count one tick on (R52, R110), the lock limit among them (log entry 38). -/
def advanceTimers (s : State) : State :=
  { s with
    outlets := Vector.ofFn fun o => s.outlets[o].advance
    membership.snapshotWait := runDown s.membership.snapshotWait
    membership.presenceTimer := runDown s.membership.presenceTimer
    membership.isolationTimer := runDown s.membership.isolationTimer
    membership.muteTimer := runDown s.membership.muteTimer
    membership.peers :=
      if following s then Vector.ofFn fun n => s.membership.peers[n].advance else s.membership.peers
    clock.lockLimit := runDown s.clock.lockLimit
    shed.stepTimer := runDown s.shed.stepTimer
    shed.frameWait := runDown s.shed.frameWait }

/-- The events due in a state. -/
def dueEvents (s : State) : List DueEvent := allDueEvents.filter (eventDue s)

/-- The millisecond tick; none while the reference is stopped or during a reset (R193, R196; for the lock limit log entry
38). -/
def tick (s : State) : State :=
  if s.resetting.isSome || !s.clock.running then s
  else
    let t := readMonitors 1 (advanceTimers s)
    treatAllDue (dueEvents t).length (dueEvents t) t

end Sys2Proof.Machine
end

