-- ==== Sys2Proof/Safety.lean ====
section
/-!
DEFINITION. What counts as a safe station: the switch drives (R112), when they must be open (R49), the reserve sum (R113),
the bounds of the account (R5, R10), the report unit's laws (R189, R191), the state check (R14); and the conditions and
relations that the statements are made of.
-/
namespace Sys2Proof.Safety
open Sys2Proof.Machine

/-- The weak drive of an outlet (R112). -/
def weakClosed (x : Outlet) : Bool := x.path == .weak || x.path == .full

/-- The strong drive of an outlet (R112). -/
def strongClosed (x : Outlet) : Bool := x.path == .full

/-- The reserve drive of an outlet (R112). -/
def reserveClosed (x : Outlet) : Bool := x.path == .reserve

/-- The station states in which every switch is open (R49). -/
def requiresOpen : StationState → Bool
  | .config | .joining | .leaving | .refused | .isolated | .dormant => true
  | _ => false

/-- Every switch of every outlet is open (R49). -/
def allSwitchesOpen (s : State) : Prop := ∀ o : OutletNum, s.outlets[o].path = .allOpen

/-- The two lists within 32 entries (R5). -/
def listsBounded (r : Replica) : Prop := r.wait.length ≤ 32 ∧ r.start.length ≤ 32

/-- No bin and no entry below the shed level (R10). -/
def nothingBelowShed (r : Replica) : Prop :=
  (∀ (n : StationNum) (p : Prio), p.val < r.shedLevel.val → binOf r n p = 0)
    ∧ ∀ e ∈ r.wait ++ r.start, r.shedLevel.val ≤ e.priority.val

/-- The sum of the weights on the reserve path within the reserve units (R113). -/
def reserveWithin (s : State) : Prop := reserveSum s ≤ s.settings.station.reserveUnits.val

/-- The report unit's own laws: at most 32 records (R182), the pointer names a fault whose status is set (R189), the
attention line as its sources give it (R191). -/
def reportLawful (s : State) : Prop :=
  s.report.events.length ≤ 32
    ∧ (∀ f, s.report.first = some f → namesFault s.report.status f = true)
    ∧ s.report.attention = attentionOf s.report.events s.report.status s.settings.station.mask

/-- The state check is that of the replica as it stands (R14). -/
def checkLawful (s : State) : Prop := s.check = checkOf s.replica

/-- A live flag has its sticky flag beside it (R162). -/
def stickyLawful (s : State) : Prop :=
  (s.rail.live = true → s.rail.sticky = true) ∧ (s.reserve.live = true → s.reserve.sticky = true)

/-- The drained flag is set exactly while the drain set is empty (R177). -/
def drainLawful (s : State) : Prop := s.port.drained = s.port.drainSet.isEmpty

/-- Only members hold units or entries (R3, R26). -/
def onlyMembersHold (r : Replica) : Prop :=
  (∀ (n : StationNum) (p : Prio), inSet r.members n = false → binOf r n p = 0)
    ∧ ∀ e ∈ r.wait ++ r.start, inSet r.members e.station = true

/-- No pair stands twice across the two lists (R5). -/
def noPairTwice (r : Replica) : Prop := pairsDistinct (r.wait ++ r.start) = true

/-! ## Laws of the outlets -/

/-- The path allowed in each outlet state (R112). -/
def pathAllowed (x : Outlet) : Bool :=
  match x.state with
  | .queued | .waiting | .admitted => x.path == .allOpen || x.path == .reserve
  | .shed => x.path == .allOpen || x.path == .reserve || x.path == .weak
  | .soft | .stopping | .dropped => x.path == .allOpen || x.path == .weak
  | .on => x.path == .full
  | .off | .cancelling | .fault => x.path == .allOpen

/-- An outlet's path is allowed in its state; the strong switch is closed in ON alone, and only on a closed weak switch; the
reserve switch is never closed beside another (R112). The gap timer runs in SOFT with every switch open (R114), the settle
timer in SOFT on the weak path (R125), the bleed timer on the weak path outside SOFT (R119, R143, R148); held-as is given in
DROPPED alone (R110), the claim-outstanding mark in CANCELLING and FAULT alone (R118, R130). -/
def outletLawful (x : Outlet) : Prop :=
  pathAllowed x = true
    ∧ (strongClosed x = true → weakClosed x = true ∧ x.state = .on)
    ∧ (reserveClosed x = true → weakClosed x = false ∧ strongClosed x = false)
    ∧ x.gap.isSome = (x.state == .soft && x.path == .allOpen)
    ∧ x.settle.isSome = (x.state == .soft && x.path == .weak)
    ∧ x.bleed.isSome = (x.path == .weak && x.state != .soft)
    ∧ x.heldAs.isSome = (x.state == .dropped)
    ∧ (x.claimOutstanding = true → x.state = .cancelling ∨ x.state = .fault)

/-- Outside a reset every outlet is lawful; a frame is due only while both places of its outlet are taken (R116); where the
replica follows accepted frames, the standing is the account's (R9, R110) and a SOFT outlet holds a slot (R125); elsewhere the
standing is ABSENT (R9, R20). -/
def outletsLawful (s : State) : Prop :=
  (s.resetting = none → ∀ o : OutletNum, outletLawful s.outlets[o])
    ∧ (∀ o : OutletNum, s.outlets[o].due ≠ none → placeFree (.outlet o) s = false)
    ∧ (s.resetting = none → following s = true → ∀ o : OutletNum,
        s.outlets[o].standing = standingOf (slotCount s) s.replica s.number o
          ∧ (s.outlets[o].state = .soft → s.outlets[o].standing = .slot))
    ∧ (s.resetting = none → following s = false → ∀ o : OutletNum, s.outlets[o].standing = .absent)

/-- During a reset, and in the station states that ask for it, every switch is open; in those states every outlet is OFF
(R49, R196). The reserve sum stays within RU (R113), and no outlet is on the reserve path while reserve-low is live (R133). -/
def switchesLawful (s : State) : Prop :=
  (s.resetting ≠ none ∨ requiresOpen s.membership.station = true → allSwitchesOpen s)
    ∧ (s.resetting = none → requiresOpen s.membership.station = true → ∀ o : OutletNum, s.outlets[o].state = .off)
    ∧ reserveWithin s
    ∧ (s.resetting = none → s.reserve.live = true → ∀ o : OutletNum, reserveClosed s.outlets[o] = false)

/-! ## Laws of the send queue and the tie interface -/

/-- Every place class holds at most the frames it has places for (R101); posting sequences rise and stay below the next one;
the drain set names posted frames (R177). -/
def queueLawful (s : State) : Prop :=
  (∀ p : Place, placeTaken p s ≤ placeSize p)
    ∧ strictlyRising (s.tie.queue.map Posted.seq) = true
    ∧ (∀ q ∈ s.tie.queue, q.seq < s.tie.nextSeq)
    ∧ ∀ n ∈ s.port.drainSet, ∃ q ∈ s.tie.queue, q.seq = n

/-- Whether a frame is a RESYNC. -/
def isResync : QueueItem → Bool
  | .resync _ => true
  | _ => false

/-- The frames that can be posted: outside a reset a frame marked for withdrawal is in flight (R105), CONFIG, REFUSED,
ISOLATED and DORMANT have no other (R104), they and JOINING have frames of the membership class alone (R103, R104), LEAVE is posted in LEAVING alone (R76), at most one CLAIM of an outlet is posted, and
only while the outlet is QUEUED or has its claim-outstanding mark set (R106, R117, R118, R130), RESYNC is posted in MUTE and in
RESYNCING while no snapshot is awaited and no further RESYNC waited for, with no own outlet in SOFT (R67, R71, R73); no FORGET
names this station (R176). -/
def postedLawful (s : State) : Prop :=
  (s.resetting = none → ∀ q ∈ s.tie.queue, q.marked = true → inFlight s q = true)
    ∧ (s.resetting = none → s.membership.station ∈ [.config, .joining, .refused, .isolated, .dormant] →
        ∀ q ∈ s.tie.queue, isMembershipClass q.item = true ∧ (s.membership.station ≠ .joining → q.marked = true))
    ∧ (s.resetting = none → s.membership.station ≠ .leaving → isPosted (fun i => i == .leave) s = false)
    ∧ (s.resetting = none → ∀ o : OutletNum, (s.tie.queue.countP fun q => isClaimOf o q.item) ≤ 1
        ∧ (isPosted (isClaimOf o) s = true → s.outlets[o].state = .queued ∨ s.outlets[o].claimOutstanding = true))
    ∧ (s.resetting = none → isPosted isResync s = true → s.membership.station ∈ [.resyncing, .mute]
        ∧ s.membership.awaiting = false ∧ s.membership.resyncWish = .none ∧ anySoft s = false)
    ∧ isPosted (fun i => i == .forget s.number) s = false

/-- Whether an attempt carries a posted frame: its kind, and what it names (R89, R200). -/
def carries : QueueItem → FrameBody → Bool
  | .shed _, .shed _ | .restore, .restore | .resync _, .resync _ | .leave, .leave | .presence, .presence _ => true
  | .snapshot n, .snapshot b _ | .refuse n _, .refuse b _ | .forget n, .forget b => b == stationByte n
  | .join d, .join d' => d' == d
  | .started o, .started b | .cancel o, .cancel b => b == outletByte o
  | .release o p w, .release b high w' | .claim o p w, .claim b high w' =>
    b == outletByte o && high == priorityField p && w' == w
  | _, _ => false

/-- A frame in flight is a posted one as it stands in the queue, sent under this station's number (R89), and its interface is
ACTIVE, not receiving and not at idle (R80, R83, R101); vetoing is suppressed exactly at eight vetoes (R97); an interface that
is OFF or SEEKING neither receives nor aborts (R80), and one that receives is not at idle (R83); it is OFF while the PLL is not
LOCKED (R80, R194, R195). -/
def tieLawful (s : State) : Prop :=
  (∀ x, s.tie.tx = some x → x.frame.sender = s.number
      ∧ (∃ q ∈ s.tie.queue, q.seq = x.seq ∧ carries q.item x.frame.body = true) ∧ s.tie.mode = .active ∧ s.tie.receiving = false
      ∧ s.tie.recessive ≠ 12)
    ∧ s.tie.suppressed = (s.tie.vetoRun == 8)
    ∧ (s.resetting = none → delivers s = false → s.tie.receiving = false ∧ s.tie.aborting = false)
    ∧ (s.tie.receiving = true → s.tie.recessive ≠ 12)
    ∧ (s.resetting = none → s.clock.pll ≠ .locked → s.tie.mode = .off)

/-! ## Laws of the shed unit, the membership unit and the clock -/

/-- The local level is at most 8 (R142); outside the active states the count is 0, both timers are stopped, nothing is pending
and the line is not driven (R138); a driven line is ASSERTED and low (R139), the line state follows its level (R137) and is
READY only with the tie clock running (R137); a pending post has its RESTORE in flight and marked (R145). -/
def shedLawful (s : State) : Prop :=
  localLevel s ≤ 8
    ∧ (s.resetting = none → following s = false → s.shed.localCount = 0 ∧ s.shed.stepTimer = none
        ∧ s.shed.frameWait = none ∧ s.shed.postPending = false ∧ s.shed.driving = false)
    ∧ (s.shed.driving = true → s.shed.line = .asserted ∧ s.pins.shedLow = true)
    ∧ (s.resetting = none → s.membership.station ≠ .dormant → s.pins.shedLow = (s.shed.line == .asserted))
    ∧ (s.resetting = none → s.shed.line = .ready → s.clock.pll = .locked)
    ∧ (s.resetting = none → s.shed.postPending = true → s.shed.localCount ≠ 0
        ∧ ∃ q ∈ s.tie.queue, q.item = .restore ∧ inFlight s q = true ∧ q.marked = true)

/-- Only a SYNCED station holds duties, and none for itself (R59); where the replica follows accepted frames the presences are
those of the member set, with this station in it as SELF (R51); elsewhere but in ISOLATED every entry is ABSENT and the
replica empty (R20, R51); a count stands in PRESENT and LOST entries alone (R51, R52; the count 0 of an entry that became ABSENT
is log entry 46). -/
def peersLawful (s : State) : Prop :=
  (∀ n : StationNum, s.membership.peers[n].duty ≠ .none → s.membership.station = .synced ∧ n ≠ s.number)
    ∧ (following s = true → inSet s.replica.members s.number = true
        ∧ ∀ n : StationNum, (s.membership.peers[n].presence = .absent ↔ inSet s.replica.members n = false))
    ∧ (following s = false → s.membership.station ≠ .isolated → s.replica = .empty
        ∧ ∀ n : StationNum, s.membership.peers[n].presence = .absent)
    ∧ (∀ n : StationNum, s.membership.peers[n].presence = .self → n = s.number)
    ∧ (s.membership.peers[s.number].presence = .self ∨ s.membership.peers[s.number].presence = .absent)
    ∧ ∀ n : StationNum, s.membership.peers[n].presence ∈ [.absent, .self] → s.membership.peers[n].silence = 0

/-- The timers of the membership unit run exactly in their states (R53, R72, R73); the snapshot wait, or its expiry put off,
goes with the awaiting condition in JOINING and RESYNCING (R56, R57, R71); a RESYNC is waited for in RESYNCING while no
snapshot is awaited (R67, R71). -/
def waitsLawful (s : State) : Prop :=
  let m := s.membership
  m.presenceTimer.isSome = (m.station == .synced || m.station == .leaving)
    ∧ m.isolationTimer.isSome = (m.station == .mute) ∧ m.muteTimer.isSome = (m.station == .mute)
    ∧ m.awaiting = (m.snapshotWait.isSome || m.waitExpired)
    ∧ ¬(m.snapshotWait.isSome = true ∧ m.waitExpired = true)
    ∧ (m.awaiting = true → m.station = .joining ∨ m.station = .resyncing)
    ∧ (s.resetting = none → m.waitExpired = true → s.tie.receiving = true)
    ∧ (m.resyncWish ≠ .none → m.station = .resyncing ∧ m.awaiting = false)

/-- The settings are sealed outside CONFIG, REFUSED and DORMANT (R12); lock is awaited in CONFIG, sealed, with the lock limit
running and the PLL not LOCKED (R175, R194); the PLL starts only then, and is LOCKED from JOINING on until the station leaves
the account (R54, R188, R195); it is stopped while the reference is (R193); a source is being started only while lock is awaited
or the reference is stopped (R194, R198). -/
def clockLawful (s : State) : Prop :=
  (s.membership.station ∉ [.config, .refused, .dormant] → s.settings.digest ≠ none)
    ∧ (s.settings.awaitingLock = true → s.membership.station = .config ∧ s.settings.digest ≠ none)
    ∧ (s.resetting = none → s.clock.lockLimit.isSome = s.settings.awaitingLock
        ∧ (s.clock.pll = .starting → s.settings.awaitingLock = true)
        ∧ (s.settings.awaitingLock = true → s.clock.pll ≠ .locked)
        ∧ (s.membership.station = .joining ∨ following s = true → s.clock.pll = .locked)
        ∧ (s.clock.running = false → s.clock.pll = .stopped)
        ∧ (s.clock.starting ≠ none → s.clock.pll = .stopped
            ∧ (s.settings.awaitingLock = true ∨ s.clock.running = false)))

/-- During a reset the station drives nothing and the PLL is stopped (R196), and a transaction under way is one to be discarded
(R179); a station without the effect of a request stands beside this one only while the request executes, outside a reset
(R179). -/
def quietLawful (s : State) : Prop :=
  (s.resetting ≠ none → s.tie.tx = none ∧ s.tie.aborting = false ∧ s.tie.receiving = false ∧ s.shed.driving = false
      ∧ s.clock.pll = .stopped ∧ (s.port.selectLow = true → s.port.discard = true))
    ∧ (s.unexecuted ≠ none → s.port.executing ≠ none ∧ s.resetting = none)

/-! ## Conditions on a state -/

/-- The port takes a request: no reset, not DORMANT, nothing executing, and a transaction under way, if any, is not one to be
discarded (R171, R172). -/
abbrev Ready (s : State) : Prop :=
  s.resetting = none ∧ s.membership.station ≠ .dormant ∧ s.port.executing = none
    ∧ (s.port.selectLow = true → s.port.discard = false)

/-- Nothing is left to be done at the end of a treatment: the inrush mark is right (R158), no fatal fault is to be escalated
(R188), a RESYNC waited for has an own outlet in SOFT or the membership place taken (R67, R102), a standing duty has the
snapshot place taken (R59). -/
abbrev Settled (s : State) : Prop :=
  s.rail.inrush = inrushOf s ∧ s.report.escalate = false
    ∧ (s.membership.station = .resyncing → s.membership.resyncWish ≠ .none →
        anySoft s = true ∨ placeFree .membership s = false)
    ∧ (s.membership.station = .synced → (∃ n : StationNum, s.membership.peers[n].duty ≠ .none) →
        placeFree .snapshot s = false)

/-- The laws of every unit together: what `StepKeeps…` states of a step, part by part. -/
abbrev Lawful (s : State) : Prop :=
  (checkLawful s ∧ reportLawful s ∧ stickyLawful s ∧ drainLawful s)
    ∧ (listsBounded s.replica ∧ nothingBelowShed s.replica ∧ onlyMembersHold s.replica ∧ noPairTwice s.replica)
    ∧ (outletsLawful s ∧ switchesLawful s)
    ∧ (queueLawful s ∧ postedLawful s ∧ tieLawful s)
    ∧ (shedLawful s ∧ peersLawful s ∧ waitsLawful s ∧ clockLawful s ∧ quietLawful s)
    ∧ (s.resetting = none → Settled s)

/-- A property of the station and, while a request executes, of the station without that request's effect, from which a reset
that abandons the execution goes on (R179, log entry 7). -/
abbrev Both (p : State → Prop) (s : State) : Prop := p s ∧ ∀ x, s.unexecuted = some x → p x.alone

/-- The severity set has its default (R188). -/
abbrev DefaultSeverity (s : State) : Prop := s.settings.station.severity = 0x8090#16

/-- The severity set names none of the given faults as fatal (R188). -/
abbrev Advisory (faults : List FaultName) (s : State) : Prop :=
  ∀ f ∈ faults, namesFault s.settings.station.severity f = false

/-- SET_LOCAL has written a fault fatal (R188). -/
abbrev WrittenFatal (f : FaultName) (s : State) : Prop := namesFault s.settings.station.severity f = true

/-- The laws hold, no reset is under way, the rail reads no sag; the severity set is any. -/
abbrev Calm (s : State) : Prop := Lawful s ∧ s.resetting = none ∧ railLow s = false

/-- The tie interface can accept a frame of another station: no reset, ACTIVE or LISTENING, not sending (R80, R93). -/
abbrev Receiving (s : State) : Prop := s.resetting = none ∧ delivers s = true ∧ s.tie.tx = none

/-- An attempt is in flight of a posted frame that is not marked for withdrawal and is not the attempt of MUTE (R95). -/
abbrev Sending (s : State) (q : Posted) : Prop :=
  s.resetting = none ∧ s.tie.tx ≠ none ∧ flying s = some q ∧ q.marked = false ∧ q.item ≠ .resync true

/-! ## Relations between the states before and after -/

/-- The answer of an execution stands formed, with its code, status and data (R172, R203), select is high, and beside the station
stands the one without the request's effect: as it was, but for the port (R179). -/
abbrev Answered (s t : State) (code : Byte) (status : Status) (data : List Byte) : Prop :=
  t.port.executing = some ⟨code, some ⟨status, code, data⟩⟩ ∧ t.port.selectLow = false ∧ t.port.discard = false
    ∧ ∃ x, t.unexecuted = some x ∧ x = { s.toStation with port := x.port } ∧ x.port.drainSet = s.port.drainSet
      ∧ x.port.drained = s.port.drained

/-- The drain set, the drained flag and the last response of the port are unchanged. -/
abbrev SamePortMemory (s t : State) : Prop :=
  t.port.drainSet = s.port.drainSet ∧ t.port.drained = s.port.drained ∧ t.port.lastResponse = s.port.lastResponse

/-- The first state with the port of the second, and with the station that the second keeps without the effect of the request
in execution (R179). -/
abbrev served (s t : State) : State := { s with port := t.port, unexecuted := t.unexecuted }

/-- A result that is a next state: the given one, but for the station without the effect of the request in execution, on which
every row acts by itself (`Obligations.ExecutionsAndRequestsTurnedAway`; R179, log entry 7). -/
abbrev Goes (r : Result) (u : State) : Prop := ∃ t, r = .next t ∧ t = { u with unexecuted := t.unexecuted }

/-- Nothing outside the port changed, and nothing of what the port remembers. -/
abbrev OnlyPort (s t : State) : Prop := t = served s t ∧ SamePortMemory s t

/-- Whether records of a kind are posted (R183, R203). -/
def kindEnabled (s : State) (e : EventRecord) : Bool :=
  s.settings.station.enable.getLsbD (match e with
    | .outlet .. => 0 | .station .. => 1 | .peer .. => 2 | .shedLevel .. => 3 | .fault .. => 4)

/-- The report unit after a treatment that records one fault at most and posts records in order, that of the fault before the
others (log entry 16). The records of enabled kinds join the queue while it holds fewer than 32, the others are dropped
(R182, R183); each dropped post sets the overflow flag and the status of EVENT_OVERFLOW (R184). The status of the fault sets
(R186). A pointer that names a fault stays; a clear one takes the fault if it is unmasked, before EVENT_OVERFLOW (R187, R189,
log entry 37). Attention follows (R191). -/
abbrev Reported (s t : State) (fault : Option FaultName) (records : List EventRecord) : Prop :=
  let enabled := records.filter (kindEnabled s)
  let room := 32 - s.report.events.length
  let dropped : Bool := room < enabled.length
  let unmasked (f : FaultName) : Bool := !namesFault s.settings.station.mask f
  t.report.events = s.report.events ++ enabled.take room
    ∧ t.report.overflow = (s.report.overflow || dropped)
    ∧ (∀ f, namesFault t.report.status f
        = (namesFault s.report.status f || fault == some f || (dropped && f == .eventOverflow)))
    ∧ t.report.first = ((s.report.first.or (fault.filter unmasked)).or
        (if dropped && unmasked .eventOverflow then some .eventOverflow else none))
    ∧ (reportLawful s →
        t.report.attention = (!t.report.events.isEmpty || (t.report.status &&& ~~~s.settings.station.mask) != 0#16))

/-- A CANCEL of an outlet is posted where one of its places is free, and is due where both are taken (R116). -/
abbrev CancelPosted (o : OutletNum) (s t : State) : Prop :=
  cancelOutstanding o t = true
    ∧ (placeFree (.outlet o) s = true → isPosted (fun i => i == .cancel o) t = true)
    ∧ (placeFree (.outlet o) s = false → t.outlets[o].due = some .cancel)

/-- A RELEASE of an outlet is posted, in the place of a STARTED that is not in flight, or is due where both places are taken
(R106, R116, R120). -/
abbrev ReleasePosted (o : OutletNum) (s t : State) : Prop :=
  let x := s.outlets[o]
  let free : Bool := placeFree (.outlet o) s || s.tie.queue.any fun q => isStartedOf o q.item && !inFlight s q
  releaseOutstanding o t = true
    ∧ (∀ q ∈ t.tie.queue, isStartedOf o q.item = true → inFlight s q = true)
    ∧ (x.due = none → placeTaken (.outlet o) s ≤ 2 →
        (free = true → isPosted (fun i => i == .release o x.config.priority x.config.weight) t = true)
        ∧ (free = false → t.outlets[o].due = some .release))

/-- The records of the outlets that a counted pulse drops, in outlet order: ON and SOFT below a level (R115, R143, R154). -/
def pulseRecords (level : Nat) (s : State) : List EventRecord :=
  (allOutlets.filter fun o => s.outlets[o].state ∈ [.on, .soft] && s.outlets[o].config.priority.val < level).map fun o =>
    .outlet o .dropped .pulse

/-- The records of a demand: those of the pulse it drives, if it drives one (R139). -/
def demandRecords (s : State) : List EventRecord :=
  if localLevel s < 8 && s.shed.line == .ready then pulseRecords (localLevel s + 1) s else []

/-- The records of the entry to ISOLATED that a fatal fault brings: the STATION record, then one for each outlet that the treatment
has not left in OFF before (R49, R136, R188; the order is log entries 36 and 49). -/
def isolationRecords (leftOff : OutletNum → Bool) : List EventRecord :=
  .station .isolated .fatal :: (allOutlets.filter fun o => !leftOff o).map fun o => .outlet o .off .station

/-- The outlets that are OFF. -/
def isOff (s : State) (o : OutletNum) : Bool := s.outlets[o].state == .off

/-- The station is ISOLATED after a treatment, with the given replica frozen: every outlet OFF and open, nothing posted and nothing
sent, the shed unit idle (R75, R80, R136, R138, R188). -/
abbrev Isolated (r : Replica) (s t : State) : Prop :=
  t.membership.station = .isolated ∧ t.replica = r
    ∧ (∀ o : OutletNum, t.outlets[o].state = .off ∧ t.outlets[o].path = .allOpen ∧ t.outlets[o].standing = .absent)
    ∧ t.tie.queue = [] ∧ t.tie.tx = none ∧ t.tie.mode ≠ .active
    ∧ t.shed.localCount = 0 ∧ t.shed.driving = false ∧ t.settings = s.settings

/-- A fault that is fatal, be it held so or written so, and whose status set in a treatment has isolated a station that the treatment
left in a state of a member or of a joiner (R75, R188). -/
abbrev FatalIsolates (s t : State) : Prop :=
  ∀ f : FaultName,
    f ∈ [.duplicateNumber, .clockUnlock, .forgotten] ∨ f ≠ .isolationTimeout ∧ WrittenFatal f s →
    namesFault s.report.status f = false → namesFault t.report.status f = true →
    t.membership.station ∉ [.joining, .synced, .resyncing, .mute, .leaving]

/-- A driver has posted SHED (R145): one of the local level at least stands posted, or a RESTORE in flight keeps the shed place
and the post is pending. -/
abbrev ShedPosted (s t : State) : Prop :=
  if s.tie.queue.any fun q => isRestore q.item && inFlight s q then t.shed.postPending = true
  else isPosted (fun i => match i with | .shed l => decide (localLevel t ≤ l.val) | _ => false) t = true

/-- The outlets a pulse drops at a level (R143): ON and SOFT below it; every other one is as it was. -/
abbrev Dropped (level : Nat) (s t : State) : Prop :=
  ∀ o : OutletNum,
    let x := s.outlets[o]
    (x.config.priority.val < level → x.state = .on →
        t.outlets[o] = { x with state := .dropped, heldAs := some .on, path := .weak, bleed := some x.config.bleedTime.val })
    ∧ (x.config.priority.val < level → x.state = .soft →
        t.outlets[o] = { x with
          state := .dropped, heldAs := some .soft, path := .allOpen, gap := none, settle := none, bleed := none })
    ∧ (level ≤ x.config.priority.val ∨ x.state ∉ [OutletState.on, .soft] → t.outlets[o] = x)

/-- What a demand does to the shed unit, the line and the outlets (R139): nothing at local level 8; from a READY line a pulse
is driven and counted and SHED posted (R142, R143, R145); on any other line it is met by the pulse last counted, and SHED is
posted where the count is above 0 (R145). -/
abbrev Demanded (s t : State) : Prop :=
  (8 ≤ localLevel s → t.shed = s.shed ∧ t.outlets = s.outlets ∧ t.pins.shedLow = s.pins.shedLow)
    ∧ (localLevel s < 8 → s.shed.line = .ready →
        t.shed = { s.shed with
          line := .asserted, driving := true, localCount := t.shed.localCount, frameWait := none
          stepTimer := some s.settings.station.stepInterval.val, postPending := t.shed.postPending }
        ∧ t.shed.localCount.val = s.shed.localCount.val + 1 ∧ t.pins.shedLow = true
        ∧ Dropped (localLevel s + 1) s t ∧ ShedPosted s t)
    ∧ (localLevel s < 8 → s.shed.line ≠ .ready →
        t.outlets = s.outlets ∧ t.pins.shedLow = s.pins.shedLow
        ∧ (s.shed.localCount = 0 → t.shed = s.shed)
        ∧ (s.shed.localCount ≠ 0 → ShedPosted s t
            ∧ t.shed = { s.shed with frameWait := none, postPending := t.shed.postPending }))

/-- Whether the end of a treatment that led from the first state to the second posts the RESYNC the station waited for: no own
outlet is in SOFT any more, and the membership place is free (R67, R71, R102). -/
abbrev postsWish (s t : State) : Bool :=
  s.membership.station == .resyncing && s.membership.resyncWish != .none && !anySoft t && placeFree .membership s

/-- The membership unit is as it was, but for a RESYNC it waited for that is posted at the end of the treatment (R67, R71). -/
abbrev WishFollows (s t : State) : Prop :=
  t.membership = (if postsWish s t then
      { s.membership with
        resyncWish := .none, foundingMark := s.membership.resyncWish == .first && s.membership.foundingMark }
    else s.membership)
  ∧ isPosted (fun i => i == .resync false) t = (isPosted (fun i => i == .resync false) s || postsWish s t)

/-! ## The snapshot wait -/

/-- The end of the snapshot wait without a load (R57, R58, R71), at the founding mark and the remembered joiners that stand then:
with the mark clear the station founds and posts PRESENCE, from JOINING with itself and the joiners, from RESYNCING with its
replica `r` as it is; with the mark set the attempt ends, in JOINING with JOIN again or, after the third, CONFIG with
JOIN_TIMEOUT, in RESYNCING with RESYNC again, JOIN_TIMEOUT recorded at each attempt after the third. That the awaiting of a
snapshot ends in RESYNCING too is log entry 19. -/
abbrev WaitEnds (mark : Bool) (joiners : Half) (r : Replica) (s t : State) : Prop :=
  let joining : Prop := s.membership.station = .joining
  let resyncing : Prop := s.membership.station = .resyncing
  t.membership.awaiting = false ∧ t.membership.snapshotWait = none ∧ t.membership.waitExpired = false
    ∧ t.settings.shared = s.settings.shared
    ∧ (mark = false → t.membership.station = .synced ∧ isPosted isPresence t = true ∧ t.settings = s.settings
        ∧ t.membership.presenceTimer = some s.settings.shared.presence.val
        ∧ (joining → t.replica = { Replica.empty with members := joiners ||| (1#16 <<< s.number.val) }
            ∧ t.check = checkOf t.replica)
        ∧ (resyncing → t.replica = r))
    ∧ (mark = true → joining → t.replica = r
        ∧ (s.membership.attempt.val < 3 → t.membership.station = .joining ∧ t.settings = s.settings
            ∧ t.membership.attempt.val = s.membership.attempt.val + 1
            ∧ (placeFree .membership s = true → isPosted (fun i => i == .join (ownDigest s)) t = true))
        ∧ (s.membership.attempt = 3 → t.membership.station = .config ∧ t.settings.digest = none
            ∧ namesFault t.report.status .joinTimeout = true))
    ∧ (mark = true → resyncing → t.membership.station = .resyncing ∧ t.replica = r ∧ t.settings = s.settings
        ∧ t.membership.attempt.val = min (s.membership.attempt.val + 1) 3
        ∧ (s.membership.attempt = 3 → namesFault t.report.status .joinTimeout = true)
        ∧ (anySoft t = false → placeFree .membership s = true →
            isPosted (fun i => i == .resync false) t = true ∧ t.membership.foundingMark = false))

/-- Whether a frame is the answer a JOIN or RESYNC of this station can have: a SNAPSHOT for this station that it awaits, or a
REFUSE for it (R56, R62, R63, R71). -/
def answersJoin (s : State) : FrameBody → Bool
  | .snapshot t _ => stationOf t == some s.number && s.membership.awaiting
  | .refuse t _ => stationOf t == some s.number
  | _ => false

/-- Whether a frame is a JOIN with the digest of this station. -/
def isEqualJoin (s : State) : FrameBody → Bool
  | .join d => s.settings.digest == some d
  | _ => false

/-- The founding mark after an accepted frame that is neither loaded nor a refusal: an equal-digest JOIN leaves it, and a FORGET
with a target above 15 (R56, R71, R202; log entry 32), every other frame sets it. -/
def markAfter (s : State) (body : FrameBody) : Bool :=
  s.membership.foundingMark || !(isEqualJoin s body || isIgnoredForget body)

/-! ## The tick -/

/-- The row of the table that stands for an event that falls due at a tick. -/
def rowOfEvent (s : State) : DueEvent → Instr
  | .gap o => .gapExpiry o
  | .settle o => .settleTimerExpiry o
  | .bleed o => .bleedExpiry o
  | .snapshotWait => .snapshotWaitExpiry false
  | .presence => .presenceTimerExpiry
  | .silence n => .silenceTimeout n
  | .mute => .muteResyncAttempt
  | .isolation => .isolationTimerExpiry
  | .lockLimit => .lockLimitExpiry
  | .step => .stepTimerExpiry
  | .frameWait => .shedFrameWaitExpiry
  | .railSag => .railSagRise s.pins.railSense 0
  | .reserveLow => .reserveLowRise s.pins.reserveSense 0

/-- Due events treated in a given order; a draw of the order is counted before each but the last (log entry 2). -/
def treatInOrder : List DueEvent → State → State
  | [], s => s
  | [e], s => treatDue e s
  | e :: rest, s => treatInOrder rest (treatDue e { s with freeCount := s.freeCount + 1 })

/-! ## The account -/

/-- The units of a station's entries of one priority. -/
def unitsAt (l : List Entry) (n : StationNum) (p : Prio) : Nat :=
  ((l.filter fun e => e.station == n && e.priority == p).map fun e => e.weight.val).sum

/-- The declared entries of a RESYNC without the faults of R202: of the sender, with a weight and a clear pad, for an outlet that
no earlier entry of the frame is for (log entry 33). -/
def soundEntries (n : StationNum) (declared : List WireEntry) : List WireEntry :=
  (declared.zipIdx.filter fun x => x.1.station == n && x.1.weight != 0 && x.1.pad == 0
    && !(declared.take x.2).any fun w => w.outlet == x.1.outlet).map Prod.fst

/-! ## The outlets at a report -/

/-- Whether a frame is one of the four outlet frames (R24). -/
def isOutletFrame : FrameBody → Bool
  | .started .. | .cancel .. | .release .. | .claim .. => true
  | _ => false

/-- The state an outlet takes at a report by the tables of R122, R123 and R126, in a station that is SYNCED or not. CANCELLING
and STOPPING outlets await the answers to their frames (R124, R132); any other state stays. -/
def stateAfterReport (synced : Bool) (outcome : Option ClaimOutcome) (standing : Standing) (st : OutletState) : OutletState :=
  let started : OutletState := if synced then .soft else .admitted
  match st, standing, outcome with
  | .queued, .slot, some .admitted => started
  | .queued, _, some .admitted => .admitted
  | .queued, _, some .waiting => .waiting
  | .queued, _, some (.denied .shedLevel) => .shed
  | .queued, _, some (.denied _) => .off
  | .waiting, .slot, _ | .admitted, .slot, _ => started
  | .waiting, .admitted, _ | .soft, .admitted, _ => .admitted
  | .admitted, .listed, _ | .soft, .listed, _ => .waiting
  | .waiting, .absent, _ | .admitted, .absent, _ | .soft, .absent, _ => .queued
  | st, _, _ => st

/-- An outlet below the agreed level at an accepted SHED (R108, R148): SHED from ON with its bleed begun, from SOFT with every
switch open, from DROPPED, WAITING and ADMITTED; STOPPING and CANCELLING enter OFF when nothing else is awaited; its frames that
release are withdrawn. -/
abbrev ShedByTable (s t : State) (o : OutletNum) : Prop :=
  let x := s.outlets[o]
  let y := t.outlets[o]
  let quiet : Bool := !s.pins.trip.getLsbD o.val && !s.pins.settle.getLsbD o.val
  (x.state = .on → y.state = .shed ∧ y.path = .weak ∧ y.bleed = some x.config.bleedTime.val)
    ∧ (x.state = .soft → y.state = .shed ∧ y.path = .allOpen ∧ y.gap = none ∧ y.settle = none)
    ∧ (x.state = .dropped → y.state = .shed ∧ y.heldAs = none ∧ y.path = x.path ∧ y.bleed = x.bleed)
    ∧ (quiet = true → x.state ∈ [.waiting, .admitted] → y.state = .shed ∧ (x.path = .reserve → y.path = .reserve))
    ∧ (x.state = .stopping → y.state = if x.path == .weak then .stopping else .off)
    ∧ (x.state = .cancelling → y.state = if x.claimOutstanding then .cancelling else .off)
    ∧ (x.state ∈ [.off, .queued, .shed, .fault] → y.state = x.state ∧ y.path = x.path)
    ∧ (quiet = true → y.due = none ∧ isPosted (isReleasing fun o' => o' == o) t = false)
    ∧ y.standing = standingOf (slotCount s) t.replica s.number o

/-- An outlet at an entry to SYNCED by a load or a founding: below a shed level that the load raised it follows the table of R148
(R62), else the report of its standing if that changed (R126), and then an ADMITTED outlet that holds a slot starts, through
the changeover gap or onto the weak path (R114, R125, R135). -/
abbrev EntersSynced (s t : State) (o : OutletNum) : Prop :=
  let x := s.outlets[o]
  let y := t.outlets[o]
  let new := standingOf (slotCount s) t.replica s.number o
  let moved : Bool := standingOf (slotCount s) s.replica s.number o != new
  let covered : Bool := s.replica.shedLevel.val < t.replica.shedLevel.val
    && x.config.priority.val < t.replica.shedLevel.val
  let quiet : Bool := !s.pins.trip.getLsbD o.val && !s.pins.settle.getLsbD o.val
  let reported : OutletState := if moved then stateAfterReport true none new x.state else x.state
  let starts : Bool := reported == .admitted && new == .slot
  y.standing = new
    ∧ (covered = true → ShedByTable s t o)
    ∧ (covered = false → moved = false → starts = false → y = x)
    ∧ (covered = false → quiet = true → x.state ∉ [.cancelling, .stopping] →
        y.state = if starts then .soft else reported)
    ∧ (covered = false → quiet = true → y.state = .soft → x.state ≠ .soft →
        (x.path = .reserve → y.path = .allOpen ∧ y.gap = some 2)
        ∧ (x.path = .allOpen → y.path = .weak ∧ y.settle = some x.config.settleTimeout.val))
    ∧ (covered = false → x.state = .soft → y.state ≠ .soft → y.path = .allOpen ∧ y.gap = none ∧ y.settle = none)
    ∧ (covered = false → quiet = true → x.state ≠ .queued → y.state = .queued → placeTaken (.outlet o) t ≤ 1 →
        isPosted (isClaimOf o) t = true)
    ∧ (covered = false → x.state = .cancelling →
        y.state = if moved && !(cancelOutstanding o t || y.claimOutstanding) then .off else .cancelling)
    ∧ (covered = false → x.state = .stopping →
        y.state = if moved && !(y.path == .weak || releaseOutstanding o t) then .off else .stopping)

/-- The frame is that of another station while this one does not send, or the one this station drives (R93). -/
abbrev SentOrHeard (s : State) (f : TieFrame) : Prop :=
  s.tie.tx = none ∧ f.sender ≠ s.number ∨ f.sender = s.number ∧ ∃ x, s.tie.tx = some x ∧ x.frame = f

/-- No treatment of the state raises a demand or isolates the station: the laws hold, no reset is under way, the rail reads no
sag, the severity has its default. -/
abbrev Steady (s : State) : Prop := Lawful s ∧ s.resetting = none ∧ railLow s = false ∧ DefaultSeverity s

/-- A command that is a request of correct form, with its code and the bytes after its two-byte header (R203). -/
def requestOf : Instr → Option (Byte × List Byte)
  | .nop => some (0#8, [])
  | .setShared r => some (1#8, rawSharedBytes r)
  | .setOutlet r => some (2#8, rawOutletBytes r)
  | .setLocal r => some (3#8, rawLocalBytes r)
  | .join => some (4#8, [])
  | .readStatus b => some (5#8, [b])
  | .readOutlet b => some (6#8, [b])
  | .readRow b => some (7#8, [b])
  | .readWait b => some (8#8, [b])
  | .readStart b => some (9#8, [b])
  | .readPeer b => some (10#8, [b])
  | .readEvent => some (11#8, [])
  | .readFaults => some (12#8, [])
  | .clearFaults h => some (13#8, halfBytes h)
  | .clearSticky => some (14#8, [])
  | .mark => some (15#8, [])
  | .reset => some (16#8, [])
  | .dormant b => some (17#8, [b])
  | .outletOn b => some (18#8, [b])
  | .outletOff b => some (19#8, [b])
  | .outletClear b => some (20#8, [b])
  | .shed => some (21#8, [])
  | .restore => some (22#8, [])
  | .leave => some (23#8, [])
  | .forget b => some (24#8, [b])
  | .resync => some (25#8, [])
  | _ => none

/-- The frame an acceptance command carries (R200). -/
def frameOf : Instr → Option TieFrame
  | .acceptShed n l => some ⟨n, .shed l⟩
  | .acceptRestore n => some ⟨n, .restore⟩
  | .acceptSnapshot n t c => some ⟨n, .snapshot t c⟩
  | .acceptRefuse n t d => some ⟨n, .refuse t d⟩
  | .acceptJoin n d => some ⟨n, .join d⟩
  | .acceptResync n c => some ⟨n, .resync c⟩
  | .acceptLeave n => some ⟨n, .leave⟩
  | .acceptForget n t => some ⟨n, .forget t⟩
  | .acceptStarted n o => some ⟨n, .started o⟩
  | .acceptCancel n o => some ⟨n, .cancel o⟩
  | .acceptRelease n o p w => some ⟨n, .release o p w⟩
  | .acceptClaim n o p w => some ⟨n, .claim o p w⟩
  | .acceptPresence n c => some ⟨n, .presence c⟩
  | _ => none

/-- Whether a command is a row of the tie bus: one of those beside acceptance, or an acceptance. -/
def ofTieBus (c : Instr) : Bool :=
  (frameOf c).isSome || match c with
    | .busIdle | .startAttempt | .arbitrationLost | .abortMark | .formatError _ | .frameVetoed _ => true
    | _ => false

/-- Whether a command is a row of the command port or of a reset: it begins, ends or abandons an execution. -/
def ofPortOrReset (c : Instr) : Bool :=
  (requestOf c).isSome || match c with
    | .transactionStart | .badFormat .. | .executionComplete | .powerOnReset | .resetInput | .resetInputRelease
    | .resetCompletion _ => true
    | _ => false

end Sys2Proof.Safety
end

