-- ==== Sys2Proof/Certificates/Slice0/Obligations.lean ====
section
/-!
DEFINITION. The statements for the provers: the step, reset, the command port, the tie bus, acceptance and the shared
account, the timers, the outlets, the shed line, the monitors, clocks and resets, and the invariants every step keeps.
-/
open Sys2Proof Sys2Proof.Machine Sys2Proof.Safety

/-! ## The step and the queue of commands -/

/-- A step takes the command at the front of the queue and executes it on the state with the queue's rest. -/
def Obligations.StepRunsFrontCommand : Prop :=
  ∀ (c : Instr) (rest : List Instr) (s : State), s.pending = c :: rest → step s = exec c { s with pending := rest }

/-- On an empty queue the step is the millisecond tick (the model's choice, log entry 1), and with the reference stopped
or a reset under way nothing advances (R193, R196). A tick takes every running timer one on, and the silence count of
every PRESENT entry where the replica follows accepted frames (R52, R110); outside DORMANT it reads both comparators,
each count rising with a low reading until its flag sets and clearing with any other (R156, R159, R164, R166). Then the
events that are due are treated, each once, in an order the manual leaves open (log entry 2), and the treatment of each
is that of its row of the table; whether another station's frame is being received as the snapshot wait runs out is a
free value where no row has told it (R57, log entry 39). -/
def Obligations.StepOnEmptyQueue : Prop :=
  ∀ s : State, s.pending = [] →
    (s.clock.running = false ∨ s.resetting ≠ none → Goes (step s) s)
    ∧ (s.clock.running = true → s.resetting = none →
      let u := readMonitors 1 (advanceTimers s)
      let railSag := s.pins.railSense < 600 + 20 * s.settings.station.railThreshold.val
      let cellLow := s.pins.reserveSense < match s.settings.station.reserveThreshold with | .standard => 850 | .extended => 750
      let filter := if s.rail.inrush then s.settings.station.inrushFilter.val else s.settings.station.sagFilter.val
      (∃ order : List DueEvent, order.Perm (allDueEvents.filter (eventDue u)) ∧ Goes (step s) (treatInOrder order u))
      ∧ (∀ o : OutletNum, u.outlets[o] = { s.outlets[o] with
          gap := s.outlets[o].gap.map (· - 1), settle := s.outlets[o].settle.map (· - 1)
          bleed := s.outlets[o].bleed.map (· - 1) })
      ∧ (∀ n : StationNum, u.membership.peers[n] =
          if following s = true ∧ s.membership.peers[n].presence = .present
          then { s.membership.peers[n] with silence := s.membership.peers[n].silence + 1 } else s.membership.peers[n])
      ∧ (s.membership.station = .dormant → u.rail = s.rail ∧ u.reserve = s.reserve)
      ∧ (s.membership.station ≠ .dormant →
          (¬railSag → u.rail = { s.rail with live := false, count := 0 })
          ∧ (railSag → s.rail.live = true → u.rail = s.rail)
          ∧ (railSag → s.rail.live = false → u.rail = { s.rail with count := u.rail.count }
              ∧ u.rail.count.val = min (s.rail.count.val + 1) 60)
          ∧ (¬cellLow → u.reserve = { s.reserve with live := false, count := 0 })
          ∧ (cellLow → s.reserve.live = true → u.reserve = s.reserve)
          ∧ (cellLow → s.reserve.live = false → u.reserve = { s.reserve with count := u.reserve.count }
              ∧ u.reserve.count.val = min (s.reserve.count.val + 1) 60))
      ∧ u = { s with
          outlets := u.outlets, rail := u.rail, reserve := u.reserve
          membership := { s.membership with
            peers := u.membership.peers
            snapshotWait := s.membership.snapshotWait.map (· - 1)
            presenceTimer := s.membership.presenceTimer.map (· - 1)
            isolationTimer := s.membership.isolationTimer.map (· - 1), muteTimer := s.membership.muteTimer.map (· - 1) }
          clock := { s.clock with lockLimit := s.clock.lockLimit.map (· - 1) }
          shed := { s.shed with
            stepTimer := s.shed.stepTimer.map (· - 1), frameWait := s.shed.frameWait.map (· - 1) } }
      ∧ (eventDue u .railSag = true ↔ s.membership.station ≠ .dormant ∧ railSag ∧ s.rail.live = false
          ∧ filter ≤ u.rail.count.val)
      ∧ (eventDue u .reserveLow = true ↔ s.membership.station ≠ .dormant ∧ cellLow ∧ s.reserve.live = false
          ∧ 2 ≤ u.reserve.count.val)
      ∧ (∀ n : StationNum, eventDue u (.silence n) = true ↔ following s = true ∧ s.membership.peers[n].presence = .present
          ∧ 4 * s.settings.shared.presence.val ≤ s.membership.peers[n].silence + 1)
      ∧ ∀ o : OutletNum, (eventDue u (.gap o) = true ↔ u.outlets[o].gap = some 0)
          ∧ (eventDue u (.settle o) = true ↔ u.outlets[o].settle = some 0)
          ∧ (eventDue u (.bleed o) = true ↔ u.outlets[o].bleed = some 0))

/-- A due event is treated as its row of the table is: an event no longer due when its turn comes is not treated, a
timer is due when it has run to 0 (R110), and the snapshot wait runs out as its row does, with a free value for a frame
being received where the station can be receiving one and no row has told of one (R57, log entries 2 and 39). -/
def Obligations.DueEventsActAsRows : Prop :=
  ∀ (e : DueEvent) (s : State), s.resetting = none →
    (eventDue s e = false → treatDue e s = s)
    ∧ (eventDue s e = true → e ≠ .snapshotWait → Goes (exec (rowOfEvent s e) s) (treatDue e s))
    ∧ (s.membership.snapshotWait = some 0 → s.tie.receiving = true ∨ canReceive s = false →
        Goes (exec (.snapshotWaitExpiry false) s) (treatDue .snapshotWait s))
    ∧ (s.membership.snapshotWait = some 0 → s.tie.receiving = false → canReceive s = true →
        ∃ frame, Goes (exec (.snapshotWaitExpiry frame) { s with freeCount := s.freeCount + 1 })
          (treatDue .snapshotWait s))
    ∧ (eventDue s .snapshotWait = true ↔ s.membership.snapshotWait = some 0)
    ∧ (eventDue s .presence = true ↔ s.membership.presenceTimer = some 0)
    ∧ (eventDue s .mute = true ↔ s.membership.muteTimer = some 0)
    ∧ (eventDue s .isolation = true ↔ s.membership.isolationTimer = some 0)
    ∧ (eventDue s .lockLimit = true ↔ s.clock.lockLimit = some 0)
    ∧ (eventDue s .step = true ↔ s.shed.stepTimer = some 0)
    ∧ (eventDue s .frameWait = true ↔ s.shed.frameWait = some 0)

/-- After power-on reset: the values the manual gives, group by group (R22, R49, R51, R80, R104, R110, R111, R137, R168,
R174, R177, R192, R196); the shed line is RECOVERING because the model's line is high at power-on (log entry 12: R137
gives ASSERTED for a low one). -/
def Obligations.ResetValues : Prop :=
  let s := State.reset
  s.membership.station = .config ∧ s.membership.attempt = 0 ∧ s.membership.foundingMark = false
    ∧ s.membership.remembered = 0#16 ∧ s.membership.awaiting = false ∧ s.membership.snapshotWait = none
    ∧ s.membership.presenceTimer = none ∧ s.membership.isolationTimer = none
    ∧ (∀ n : StationNum, s.membership.peers[n] = { presence := .absent, silence := 0, duty := .none, refusal := none })
    ∧ s.replica = .empty ∧ s.check = checkOf .empty
    ∧ s.settings.shared = { capacity := 0, headroom := 0, essential := 8, cap := 0, slots := 1, order := .strict, rate := 2
                            presence := 100, wait := 100 }
    ∧ s.settings.digest = none
    ∧ s.tie.mode = .off ∧ s.tie.queue = [] ∧ s.tie.vetoRun = 0 ∧ s.tie.suppressed = false
    ∧ (∀ o : OutletNum, s.outlets[o] = {
        config := { enabled := false, weight := 1, priority := 0, reserveAllowed := false, autoReclaim := false
                    settleTimeout := 50, bleedTime := 10 }
        state := .off, path := .allOpen, heldAs := none, standing := .absent
        gap := none, settle := none, bleed := none, claimOutstanding := false, due := none })
    ∧ s.shed.line = .recovering ∧ s.shed.driving = false ∧ s.shed.localCount = 0 ∧ s.shed.stepTimer = none
    ∧ s.shed.frameWait = none ∧ s.shed.postPending = false
    ∧ s.rail = { count := 0, live := false, sticky := false, inrush := false }
    ∧ s.reserve = { count := 0, live := false, sticky := false, inrush := false }
    ∧ s.settings.station = {
        reserveUnits := 0, reserveThreshold := .standard, railThreshold := 8, sagFilter := 4
        inrushFilter := 20, stepInterval := 50, clock := .internal, enable := 31#5, mask := 0#16, severity := 0x8090#16 }
    ∧ s.report.events = [] ∧ s.report.overflow = false ∧ s.report.status = 0#16 ∧ s.report.first = none
    ∧ s.report.attention = false ∧ s.report.resetCause = .powerOn
    ∧ s.port.executing = none ∧ s.port.lastResponse = none ∧ s.port.responseBuffer = some .idle ∧ s.port.receiveBuffer = []
    ∧ s.port.drainSet = [] ∧ s.port.drained = true
    ∧ s.clock.source = .internal ∧ s.clock.running = true ∧ s.clock.pll = .stopped ∧ s.resetting = none

/-! ## The command port -/

/-- What a falling edge of select loads into the response buffer, and whether the request is discarded (R171); how rows
stand for edges is the model's choice, log entry 6. While select is low data out carries the record loaded: status,
echoed code, data length and data, each byte most significant bit first, and all ones past its end; while select is
high, or where no record was loaded, data out is not driven (R170, R179, R203). During a reset the request is discarded
and no record is loaded, but for NOT_READY while a RESET is in execution (R179). -/
def Obligations.FallingEdgeLoadsResponse : Prop :=
  ∀ s : State,
    (s.resetting = none → s.membership.station ≠ .dormant →
      ∃ t, exec .transactionStart s = .next t ∧ OnlyPort s t ∧ t.port.executing = s.port.executing ∧ t.port.selectLow = true
        ∧ t.unexecuted = s.unexecuted
        ∧ (∀ e, s.port.executing = some e →
            t.port.responseBuffer = some ⟨.notReady, e.code, []⟩ ∧ t.port.discard = true)
        ∧ (s.port.executing = none → t.port.discard = false
            ∧ (∀ r, s.port.lastResponse = some r → t.port.responseBuffer = some r)
            ∧ (s.port.lastResponse = none → t.port.responseBuffer = some ⟨.idle, 255#8, []⟩)))
    ∧ (s.resetting ≠ none →
      ∃ t, exec .transactionStart s = .next t ∧ OnlyPort s t ∧ t.port.executing = s.port.executing ∧ t.port.selectLow = true
        ∧ t.unexecuted = s.unexecuted ∧ t.port.discard = true
        ∧ t.port.responseBuffer = s.port.executing.map fun e => ⟨.notReady, e.code, []⟩)
    ∧ (∀ k : Nat, (s.port.selectLow = false ∨ s.port.responseBuffer = none → dataOutByte k s = none)
        ∧ (∀ r, s.port.responseBuffer = some r → s.port.selectLow = true →
            dataOutByte k s = some
              ((BitVec.ofNat 8 r.status.code :: r.code :: BitVec.ofNat 8 r.data.length :: r.data).getD k 255#8))
        ∧ ∀ j : Fin 8, dataOutBit (8 * k + j.val) s = (dataOutByte k s).map fun b => b.getLsbD (7 - j.val))
    ∧ [Status.ok, .notReady, .busy, .refusedState, .badArgument, .badFormat, .idle].map Status.code = [0, 1, 2, 3, 4, 5, 6]

/-- A malformed request is answered BAD_FORMAT, its first byte echoed or 255, with no further effect (R172, R203); a
request whose transaction began while another was executing is discarded, and the host reads NOT_READY with the code of
that one (R171); that this code is 255 where the executing request is a malformed one with no whole byte is the model's
choice, log entry 42, and that a request row given with select high takes the falling edge too is log entry 6. The end
of an execution makes its record the response of the last request executed and clears the flag; the flag of a RESET
stays set (R171, R172, R179). A request given during a reset is discarded (R179). That an EXECUTION_COMPLETE row with
nothing executing leaves the state as it was is log entry 4. That the effect has been made before is the model's
choice, log entry 7 (and the tick the step on an empty queue, log entry 1): while the request executes, the station
without its effect stands beside the one with it, and every row but those of the port and of resets, and the tick, acts
on it as if it stood alone; a row of the tie bus does not where the frame on the bus is one that the effect alone
sends. -/
def Obligations.ExecutionsAndRequestsTurnedAway : Prop :=
  ∀ s : State,
    (Ready s → ∀ (bytes : List Byte) (brokenBits : Fin 8),
      ∃ t, exec (.badFormat bytes brokenBits) s = .next t ∧ Answered s t (bytes.headD 255#8) .badFormat [] ∧ OnlyPort s t)
    ∧ (∀ (c : Instr) (e : Execution), (requestOf c).isSome → s.resetting = none → s.membership.station ≠ .dormant →
      s.port.executing = some e → (s.port.selectLow = true → s.port.discard = true) →
      ∃ t, exec c s = .next t ∧ OnlyPort s t ∧ t.port.executing = s.port.executing ∧ t.unexecuted = s.unexecuted
        ∧ (s.port.selectLow = false → t.port.responseBuffer = some ⟨.notReady, e.code, []⟩))
    ∧ (∀ c : Instr, (requestOf c).isSome → s.resetting ≠ none → (s.port.selectLow = true → s.port.discard = true) →
      ∃ t, exec c s = .next t ∧ OnlyPort s t ∧ t.port.executing = s.port.executing ∧ t.unexecuted = s.unexecuted)
    ∧ (∀ code r, s.port.executing = some ⟨code, some r⟩ → exec .executionComplete s =
      .next { s with port := { s.port with executing := none, lastResponse := some r }, unexecuted := none })
    ∧ ((∀ e, s.port.executing = some e → e.response = none) → exec .executionComplete s = .next s)
    ∧ (∀ c : Instr, ofPortOrReset c = false →
      ∃ t, exec c s = .next t ∧ (s.unexecuted = none → t.unexecuted = none)
        ∧ ∀ x, s.unexecuted = some x →
          (ofTieBus c = true → s.tie.tx ≠ none → x.tie.tx = none → t.unexecuted = some x)
          ∧ (ofTieBus c = false ∨ s.tie.tx = none ∨ x.tie.tx ≠ none →
              ∃ u, exec c x.alone = .next u ∧ t.unexecuted = some u.toStation))
    ∧ (s.pending = [] →
      ∃ t, step s = .next t ∧ (s.unexecuted = none → t.unexecuted = none)
        ∧ ∀ x, s.unexecuted = some x → ∃ u, step x.alone = .next u ∧ t.unexecuted = some u.toStation)

/-- NOP and the reads are answered OK in every state the port serves, with their data field by field, and change nothing
(R4, R48, R180, R181, R203). The enumerated values are coded from 0 in the order of the manual (R203). -/
def Obligations.ReadsAnswerAndChangeNothing : Prop :=
  ∀ s : State, Ready s →
    let gives (c : Instr) (code : Byte) (data : List Byte) : Prop :=
      ∃ t, exec c s = .next t ∧ Answered s t code .ok data ∧ OnlyPort s t
    let byte (n : Nat) : Byte := BitVec.ofNat 8 n
    let bit (n : Nat) (b : Bool) : Nat := if b then 2 ^ n else 0
    gives .nop 0#8 []
      ∧ gives (.readStatus 0#8) 5#8 (
          [byte s.membership.station.code, byte s.number.val, byte s.report.resetCause.code,
            byte (bit 7 s.settings.digest.isSome + bit 6 s.settings.awaitingLock + bit 5 s.port.drained + bit 4 s.rail.live
              + bit 3 s.rail.sticky + bit 2 s.reserve.live + bit 1 s.reserve.sticky + bit 0 s.report.attention),
            byte s.replica.shedLevel.val, byte s.shed.localCount.val]
          ++ bytesMsb 2 (min (accountTotal s.replica) 65535) ++ bytesMsb 2 s.settings.shared.capacity.val
          ++ bytesMsb 2 s.replica.members.toNat ++ [byte s.report.events.length, byte (bit 0 s.report.overflow)])
      ∧ gives (.readStatus 1#8) 5#8 (sharedBytes s.settings.shared
          ++ halfBytes (s.settings.digest.getD (digestOf s.settings.shared)))
      ∧ gives (.readStatus 2#8) 5#8 (localBytes s.settings.station)
      ∧ (∀ o : OutletNum,
          let x := s.outlets[o]
          gives (.readOutlet (outletByte o)) 6#8 (
            byte (bit 0 x.config.enabled + bit 1 x.config.reserveAllowed + bit 2 x.config.autoReclaim)
            :: bytesMsb 2 x.config.weight.val
            ++ [byte x.config.priority.val, byte x.config.settleTimeout.val, byte x.config.bleedTime.val,
              byte x.state.code, byte x.path.code, byte (match x.heldAs with | none => 0 | some .on => 1 | some .soft => 2),
              byte x.standing.code,
              byte (bit 0 x.claimOutstanding + bit 1 (s.tie.queue.any fun q => placeOf q.item == .outlet o)
                + bit 2 x.due.isSome)]))
      ∧ (∀ n : StationNum, gives (.readRow (stationByte n)) 7#8
          (binBlockBytes s.replica.rows[n] ++ bytesMsb 2 (rowTotal s.replica.rows[n])))
      ∧ (∀ i : Byte, gives (.readWait i) 8#8 (bytesMsb 1 s.replica.wait.length
          ++ (match s.replica.wait[i.toNat]? with | some e => e.bytes | none => [])))
      ∧ (∀ i : Byte, gives (.readStart i) 9#8 (bytesMsb 1 s.replica.start.length
          ++ (match s.replica.start[i.toNat]? with | some e => e.bytes | none => [])))
      ∧ (∀ n : StationNum, gives (.readPeer (stationByte n)) 10#8
          (bytesMsb 1 s.membership.peers[n].presence.code ++ bytesMsb 2 s.membership.peers[n].silence
            ++ bytesMsb 1 s.membership.peers[n].duty.code ++ bytesMsb 1 s.membership.peers[n].refusal.isSome.toNat
            ++ halfBytes (s.membership.peers[n].refusal.getD 0#16)))
      ∧ gives .readFaults 12#8 (halfBytes s.report.status ++ halfBytes s.settings.station.mask
          ++ halfBytes s.settings.station.severity
          ++ [match s.report.first with | some f => BitVec.ofNat 8 f.num.val | none => 16#8])
      ∧ [StationState.config, .joining, .synced, .resyncing, .mute, .isolated, .refused, .leaving, .dormant].map
          StationState.code = List.range 9
      ∧ [OutletState.off, .queued, .waiting, .cancelling, .admitted, .soft, .on, .stopping, .dropped, .shed, .fault].map
          OutletState.code = List.range 11
      ∧ [OutletPath.allOpen, .reserve, .weak, .full].map OutletPath.code = List.range 4
      ∧ [Standing.absent, .listed, .admitted, .slot].map Standing.code = List.range 4
      ∧ [Presence.absent, .present, .lost, .self].map Presence.code = List.range 4
      ∧ [Duty.none, .snapshot, .refuse].map Duty.code = List.range 3
      ∧ [ResetCause.powerOn, .resetInput, .resetCommand].map ResetCause.code = List.range 3

/-- READ_EVENT removes the record at the head and returns it with the overflow flag as it stood, in four bytes of its
kind, then clears the flag (R185, R203); MARK fills the drain set with the posted frames, answers their number and sets
the drained flag if there is none (R177). CLEAR_STICKY is carried out only while both live flags are clear, otherwise
refused with the reason of the live flag, rail before reserve (R165). -/
def Obligations.ReadEventMarkAndClearSticky : Prop :=
  ∀ s : State, Ready s →
    (∃ t, exec .readEvent s = .next t
      ∧ Answered s t 11#8 .ok (bytesMsb 1 s.report.overflow.toNat
          ++ (match s.report.events with
            | .outlet o st c :: _ => [0#8, BitVec.ofNat 8 o.val, BitVec.ofNat 8 st.code, BitVec.ofNat 8 c.code]
            | .station st c :: _ => [1#8, BitVec.ofNat 8 st.code, BitVec.ofNat 8 c.code, 0#8]
            | .peer n p :: _ => [2#8, BitVec.ofNat 8 n.val, BitVec.ofNat 8 p.code, 0#8]
            | .shedLevel l :: _ => [3#8, BitVec.ofNat 8 l.val, 0#8, 0#8]
            | .fault f :: _ => [4#8, BitVec.ofNat 8 f.num.val, 0#8, 0#8]
            | [] => []))
      ∧ t = { served s t with
          report := { s.report with
            events := s.report.events.tail, overflow := false
            attention := !s.report.events.tail.isEmpty || (s.report.status &&& ~~~s.settings.station.mask) != 0#16 } }
      ∧ SamePortMemory s t)
    ∧ (∃ t, exec .mark s = .next t ∧ Answered s t 15#8 .ok [BitVec.ofNat 8 s.tie.queue.length]
      ∧ t.port.drainSet = s.tie.queue.map Posted.seq ∧ t.port.drained = s.tie.queue.isEmpty
      ∧ t.port.lastResponse = s.port.lastResponse ∧ t = served s t)
    ∧ (s.rail.live = false → s.reserve.live = false →
      ∃ t, exec .clearSticky s = .next t ∧ Answered s t 14#8 .ok [] ∧ SamePortMemory s t
        ∧ t = { served s t with
            rail := { s.rail with sticky := false }, reserve := { s.reserve with sticky := false } })
      ∧ (s.rail.live = true →
        ∃ t, exec .clearSticky s = .next t ∧ Answered s t 14#8 .refusedState [3#8] ∧ OnlyPort s t)
      ∧ (s.rail.live = false → s.reserve.live = true →
        ∃ t, exec .clearSticky s = .next t ∧ Answered s t 14#8 .refusedState [7#8] ∧ OnlyPort s t)

/-- CLEAR_FAULTS (R190): any set is taken and answered OK; the status of each fault in the set is cleared, the pointer
is rearmed if it names one of them, attention is evaluated again, and nothing else changes. -/
def Obligations.ClearFaultsRearms : Prop :=
  ∀ (set : Half) (s : State), Ready s →
    ∃ t, exec (.clearFaults set) s = .next t ∧ Answered s t 13#8 .ok [] ∧ SamePortMemory s t
      ∧ (∀ f : FaultName, namesFault t.report.status f = (namesFault s.report.status f && !namesFault set f))
      ∧ (∀ f : FaultName, t.report.first = some f ↔ s.report.first = some f ∧ namesFault set f = false)
      ∧ t.report.attention = (!t.report.events.isEmpty || (t.report.status &&& ~~~t.settings.station.mask) != 0#16)
      ∧ t = { served s t with
          report := { s.report with
            status := t.report.status, first := t.report.first, attention := t.report.attention } }

/-- The three configuration records replace the stored ones in CONFIG while not awaiting lock (R174); a new
station-local record takes effect at once: the rail live flag sets if a shorter sag filter is reached by a count whose
last reading was low (R159, log entry 29), and the next reading of either comparator, with the new thresholds, clears a
flag that they end (R156, R164). An outlet above 7, a station above 15, a part above 2, a keep-clock above 1 or a record
field out of range is answered BAD_ARGUMENT; a record in range is answered REFUSED_STATE outside CONFIG and BUSY while
awaiting lock; each time nothing changes (R173, R174, R204). -/
def Obligations.RecordsAndArguments : Prop :=
  ∀ (s : State) (b : Byte), Ready s →
    let answers (c : Instr) (code : Byte) (st : Status) (data : List Byte) : Prop :=
      ∃ t, exec c s = .next t ∧ Answered s t code st data ∧ OnlyPort s t
    let record (c : Instr) (code : Byte) (good : Bool) : Prop :=
      (good = false → answers c code .badArgument [])
        ∧ (good = true → s.membership.station ≠ .config → answers c code .refusedState [0#8])
        ∧ (good = true → s.membership.station = .config → s.settings.awaitingLock = true → answers c code .busy [])
    (s.membership.station = .config → s.settings.awaitingLock = false →
      (∀ r c, checkShared r = some c →
        ∃ t, exec (.setShared r) s = .next t ∧ Answered s t 1#8 .ok [] ∧ SamePortMemory s t
          ∧ t = { served s t with settings := { s.settings with shared := c } })
      ∧ (∀ r o c, checkOutlet r = some (o, c) →
        ∃ t, exec (.setOutlet r) s = .next t ∧ Answered s t 2#8 .ok [] ∧ SamePortMemory s t ∧ t.outlets[o].config = c
          ∧ t = { served s t with outlets := s.outlets.set o { s.outlets[o] with config := c } })
      ∧ (∀ r c, checkLocal r = some c →
        ∃ t, exec (.setLocal r) s = .next t ∧ Answered s t 3#8 .ok [] ∧ SamePortMemory s t
          ∧ t.settings = { s.settings with station := c } ∧ t.replica = s.replica ∧ t.outlets = s.outlets ∧ t.tie = s.tie
          ∧ t.clock = s.clock ∧ t.membership = s.membership
          ∧ (Settled s →
            let reads : Bool := s.clock.running
            let railSag : Bool := s.pins.railSense < 600 + 20 * c.railThreshold.val
            let cellLow : Bool := s.pins.reserveSense < match c.reserveThreshold with | .standard => 850 | .extended => 750
            let filterOf (x : StationSettings) : Nat := if s.rail.inrush then x.inrushFilter.val else x.sagFilter.val
            let rises : Bool := reads && s.pins.railSense < 600 + 20 * s.settings.station.railThreshold.val && !s.rail.live
              && filterOf c ≠ filterOf s.settings.station && filterOf c ≤ s.rail.count.val
            t.rail = { s.rail with
                live := (s.rail.live || rises) && (railSag || !reads), sticky := s.rail.sticky || rises
                count := if railSag || !reads then s.rail.count else 0 }
              ∧ t.reserve = { s.reserve with
                live := s.reserve.live && (cellLow || !reads), count := if cellLow || !reads then s.reserve.count else 0 }
              ∧ (rises = true → namesFault t.report.status .railSag = true))))
    ∧ (8 ≤ b.toNat → answers (.readOutlet b) 6#8 .badArgument [] ∧ answers (.outletOn b) 18#8 .badArgument []
        ∧ answers (.outletOff b) 19#8 .badArgument [] ∧ answers (.outletClear b) 20#8 .badArgument [])
    ∧ (16 ≤ b.toNat → answers (.readRow b) 7#8 .badArgument [] ∧ answers (.readPeer b) 10#8 .badArgument []
          ∧ answers (.forget b) 24#8 .badArgument [])
    ∧ (3 ≤ b.toNat → answers (.readStatus b) 5#8 .badArgument [])
    ∧ (2 ≤ b.toNat → answers (.dormant b) 17#8 .badArgument [])
    ∧ (∀ r, record (.setShared r) 1#8 (checkShared r).isSome)
    ∧ (∀ r, record (.setOutlet r) 2#8 (checkOutlet r).isSome)
    ∧ (∀ r, record (.setLocal r) 3#8 (checkLocal r).isSome)

/-- A record is in range exactly when every field is, the headroom and the cap by the capacity of the same record (R11,
R111, R174, R204); each field is then held as written, in the layout in which the record is written and read (R203); of
the severity set three faults are held fatal and one advisory (R188). -/
def Obligations.RecordRangesAndLayouts : Prop :=
  (∀ r : RawShared,
    let good : Prop := r.capacity.toNat ≤ 4095 ∧ r.headroom.toNat ≤ r.capacity.toNat - 1 ∧ r.essential.toNat ≤ 8
      ∧ r.cap.toNat ≤ r.capacity.toNat ∧ (1 ≤ r.slots.toNat ∧ r.slots.toNat ≤ 4) ∧ r.order.toNat ≤ 1 ∧ r.rate.toNat ≤ 4
      ∧ (10 ≤ r.presence.toNat ∧ r.presence.toNat ≤ 1000) ∧ 20 ≤ r.wait.toNat ∧ r.wait.toNat ≤ 500
    (¬good → checkShared r = none)
      ∧ (good → ∃ c, checkShared r = some c ∧ c.capacity.val = r.capacity.toNat ∧ c.headroom.val = r.headroom.toNat
          ∧ c.essential.val = r.essential.toNat ∧ c.cap.val = r.cap.toNat ∧ c.slots.val = r.slots.toNat
          ∧ c.order = (if r.order = 0#8 then .strict else .fit) ∧ c.rate.val = r.rate.toNat
          ∧ c.presence.val = r.presence.toNat ∧ c.wait.val = r.wait.toNat ∧ sharedBytes c = rawSharedBytes r)
      ∧ rawSharedBytes r = bytesMsb 2 r.capacity.toNat ++ bytesMsb 2 r.headroom.toNat ++ [r.essential]
          ++ bytesMsb 2 r.cap.toNat ++ [r.slots, r.order, r.rate] ++ bytesMsb 2 r.presence.toNat ++ bytesMsb 2 r.wait.toNat)
  ∧ (∀ r : RawOutlet,
    let good : Prop := r.outlet.toNat ≤ 7 ∧ r.flags.toNat ≤ 7 ∧ (1 ≤ r.weight.toNat ∧ r.weight.toNat ≤ 4095)
      ∧ r.priority.toNat ≤ 7 ∧ (1 ≤ r.settle.toNat ∧ r.settle.toNat ≤ 250) ∧ 1 ≤ r.bleed.toNat ∧ r.bleed.toNat ≤ 250
    (¬good → checkOutlet r = none)
      ∧ (good → ∃ o c, checkOutlet r = some (o, c) ∧ o.val = r.outlet.toNat ∧ c.enabled = r.flags.getLsbD 0
          ∧ c.reserveAllowed = r.flags.getLsbD 1 ∧ c.autoReclaim = r.flags.getLsbD 2 ∧ c.weight.val = r.weight.toNat
          ∧ c.priority.val = r.priority.toNat ∧ c.settleTimeout.val = r.settle.toNat ∧ c.bleedTime.val = r.bleed.toNat
          ∧ r.outlet :: outletConfigBytes c = rawOutletBytes r)
      ∧ rawOutletBytes r = [r.outlet, r.flags] ++ bytesMsb 2 r.weight.toNat ++ [r.priority, r.settle, r.bleed])
  ∧ (∀ r : RawLocal,
    let good : Prop := r.reserveThreshold.toNat ≤ 1 ∧ r.railThreshold.toNat ≤ 15
      ∧ (1 ≤ r.sagFilter.toNat ∧ r.sagFilter.toNat ≤ 15) ∧ (1 ≤ r.inrushFilter.toNat ∧ r.inrushFilter.toNat ≤ 60)
      ∧ (10 ≤ r.stepInterval.toNat ∧ r.stepInterval.toNat ≤ 500) ∧ r.clock.toNat ≤ 3 ∧ r.enable.toNat ≤ 31
    (¬good → checkLocal r = none)
      ∧ (good → ∃ c, checkLocal r = some c ∧ c.reserveUnits.val = r.reserveUnits.toNat
          ∧ c.reserveThreshold = (if r.reserveThreshold = 0#8 then .standard else .extended)
          ∧ c.railThreshold.val = r.railThreshold.toNat ∧ c.sagFilter.val = r.sagFilter.toNat
          ∧ c.inrushFilter.val = r.inrushFilter.toNat ∧ c.stepInterval.val = r.stepInterval.toNat
          ∧ c.clock = (if r.clock = 0#8 then .internal else if r.clock = 1#8 then .crystal8 else if r.clock = 2#8 then .crystal12
              else .crystal16)
          ∧ c.enable.toNat = r.enable.toNat ∧ c.mask = r.mask
          ∧ (∀ f : FaultName, namesFault c.severity f
              = (f != .isolationTimeout && (f ∈ [.duplicateNumber, .clockUnlock, .forgotten] || namesFault r.severity f)))
          ∧ localBytes c = rawLocalBytes { r with severity := c.severity })
      ∧ rawLocalBytes r = [r.reserveUnits, r.reserveThreshold, r.railThreshold, r.sagFilter, r.inrushFilter]
          ++ bytesMsb 2 r.stepInterval.toNat ++ [r.clock, r.enable] ++ bytesMsb 2 r.mask.toNat ++ bytesMsb 2 r.severity.toNat)

/-- JOIN outside CONFIG is refused; in CONFIG its conditions are tested in order: awaiting lock, capacity 0, an enabled
outlet oversize or heavier than the effective cap, the membership place taken, each with its answer and no change (R16,
R175). An accepted JOIN seals the settings with the effective cap and the digest of that record, and goes on at once
where the PLL is locked, or awaits lock within 5 ms (R12, R13, R54, R80, R175, R194). -/
def Obligations.JoinSealsAndBegins : Prop :=
  ∀ s : State, Ready s →
    let c : SharedSettings := { s.settings.shared with
      cap := if s.settings.shared.cap = 0 then s.settings.shared.capacity else s.settings.shared.cap }
    let config : Prop := s.membership.station = .config
    let unlocked : Prop := config ∧ s.settings.awaitingLock = false
    let heavy : Prop := ∃ o : OutletNum, s.outlets[o].config.enabled = true
      ∧ (limit c s.outlets[o].config.priority < s.outlets[o].config.weight.val ∨ c.cap < s.outlets[o].config.weight)
    let answers (st : Status) (data : List Byte) : Prop :=
      ∃ t, exec .join s = .next t ∧ Answered s t 4#8 st data ∧ OnlyPort s t
    (¬config → answers .refusedState [0#8])
    ∧ (config → s.settings.awaitingLock = true → answers .busy [])
    ∧ (unlocked → s.settings.shared.capacity = 0 → answers .refusedState [6#8])
    ∧ (unlocked → s.settings.shared.capacity ≠ 0 → heavy → answers .badArgument [])
    ∧ (unlocked → s.settings.shared.capacity ≠ 0 → ¬heavy → placeFree .membership s = false → answers .busy [])
    ∧ (unlocked → s.settings.shared.capacity ≠ 0 → ¬heavy → placeFree .membership s = true → Settled s → DefaultSeverity s →
      ∃ t, exec .join s = .next t ∧ Answered s t 4#8 .ok [] ∧ SamePortMemory s t
        ∧ t.settings.shared = c ∧ t.settings.digest = some (crcOfBits (bitsOfBytes (sharedBytes c)))
        ∧ t.settings.station = s.settings.station ∧ t.outlets = s.outlets ∧ t.replica = s.replica
        ∧ t.membership.attempt = 1 ∧ t.membership.foundingMark = false ∧ t.membership.remembered = 0#16
        ∧ (∀ n : StationNum, t.membership.peers[n].refusal = none)
        ∧ (s.clock.pll = .locked → t.membership.station = .joining ∧ t.settings.awaitingLock = false
            ∧ isPosted (fun i => i == .join (crcOfBits (bitsOfBytes (sharedBytes c)))) t = true
            ∧ (s.tie.mode = .off → t.tie.mode = .seeking)
            ∧ (s.tie.mode = .active → t.tie.mode = if s.tie.rate = s.settings.shared.rate then .active else .seeking)
            ∧ t.tie.rate = s.settings.shared.rate)
        ∧ (s.clock.pll ≠ .locked → t.membership.station = .config ∧ t.settings.awaitingLock = true
            ∧ t.clock.lockLimit = some 5 ∧ t.tie = s.tie))

/-- DORMANT is refused outside CONFIG and REFUSED, and BUSY while the configuration awaits lock or a frame is posted
(R178). It is entered from CONFIG or REFUSED with an empty send queue, and keep-clock decides what the clocks do (R178,
R197); that with keep-clock set a reference still being started goes on starting is the model's choice, log entry 44;
that the STATION record of the entry sets EVENT_OVERFLOW where it finds the event queue full is log entry 16. A falling
edge of select in DORMANT wakes the station: CONFIG, settings kept and unsealed, IDLE, the request discarded (R178,
R198). -/
def Obligations.DormantAndWake : Prop :=
  ∀ (keep : Bool) (s : State),
    let answers (st : Status) (data : List Byte) : Prop :=
      ∃ t, exec (.dormant (BitVec.ofNat 8 keep.toNat)) s = .next t ∧ Answered s t 17#8 st data ∧ OnlyPort s t
    (Ready s → s.membership.station ∉ [.config, .refused] → answers .refusedState [0#8])
    ∧ (Ready s → s.membership.station ∈ [.config, .refused] → s.settings.awaitingLock = true ∨ s.tie.queue ≠ [] →
      answers .busy [])
    ∧ (Ready s → s.membership.station = .config ∨ s.membership.station = .refused →
      s.settings.awaitingLock = false → s.tie.queue = [] →
      ∃ t, exec (.dormant (BitVec.ofNat 8 keep.toNat)) s = .next t ∧ Answered s t 17#8 .ok [] ∧ SamePortMemory s t
        ∧ t.membership.station = .dormant ∧ t.membership.peers = s.membership.peers ∧ t.tie.mode = .off
        ∧ t.settings = s.settings ∧ t.replica = s.replica ∧ t.outlets = s.outlets
        ∧ t.rail.live = false ∧ t.rail.count = 0 ∧ t.rail.sticky = s.rail.sticky
        ∧ t.reserve.live = false ∧ t.reserve.count = 0 ∧ t.reserve.sticky = s.reserve.sticky
        ∧ t.report.resetCause = s.report.resetCause
        ∧ (Settled s → Reported s t none [.station .dormant .command])
        ∧ (keep = true → t.clock = s.clock)
        ∧ (keep = false → t.clock.running = false ∧ t.clock.pll = .stopped ∧ t.clock.source = s.clock.source))
    ∧ (s.resetting = none → s.membership.station = .dormant → Settled s → DefaultSeverity s →
      ∃ t, exec .transactionStart s = .next t ∧ t.membership.station = .config ∧ t.settings.digest = none
        ∧ t.settings.awaitingLock = false ∧ t.settings.shared = s.settings.shared ∧ t.settings.station = s.settings.station
        ∧ t.port.responseBuffer = some ⟨.idle, 255#8, []⟩ ∧ t.port.discard = true ∧ t.port.lastResponse = none
        ∧ t.port.drainSet = s.port.drainSet ∧ t.port.drained = s.port.drained
        ∧ t.replica = s.replica ∧ t.outlets = s.outlets ∧ t.rail.sticky = s.rail.sticky ∧ t.reserve.sticky = s.reserve.sticky
        ∧ (s.clock.running = false → t.clock.starting = some s.settings.station.clock ∧ t.clock.pll = s.clock.pll)
        ∧ (s.clock.running = true → t.clock = s.clock))

/-- OUTLET_ON on an enabled outlet in OFF or SHED, at or above the shed level, in SYNCED: QUEUED, answered OK, CLAIM
posted with the sealed priority and weight where a place is free (R102, R117). An OPEN path is tested for the reserve
(R113); a reserve path is kept; a bleed that runs ends with the path OPEN (R117, R150). With the trip input asserted
the reserve switch that closes is a trip: FAULT, and no CLAIM stays, since in a station that obeys the laws of every
unit none of that outlet was posted before (R106, R129, R130). The other answers change nothing: BUSY in STOPPING and
CANCELLING, refused in FAULT, OK in the states that hold or await units, BAD_ARGUMENT for a disabled outlet, refused
outside SYNCED and below the shed level (R117). -/
def Obligations.OutletOnClaims : Prop :=
  ∀ (o : OutletNum) (s : State), Ready s →
    let x := s.outlets[o]
    let synced : Prop := s.membership.station = .synced
    let start : Prop := synced ∧ x.state ∈ [.off, .shed]
    let taken : Prop := start ∧ x.config.enabled = true ∧ s.replica.shedLevel.val ≤ x.config.priority.val
    let closes : Bool := x.path == .allOpen && x.config.reserveAllowed
      && reserveSum s + x.config.weight.val ≤ s.settings.station.reserveUnits.val && !s.reserve.live
    let tripped : Bool := closes && s.pins.trip.getLsbD o.val
    let answers (st : Status) (data : List Byte) : Prop :=
      ∃ t, exec (.outletOn (outletByte o)) s = .next t ∧ Answered s t 18#8 st data ∧ OnlyPort s t
    (taken → Settled s → DefaultSeverity s → tripped = false →
      ∃ t, exec (.outletOn (outletByte o)) s = .next t ∧ Answered s t 18#8 .ok [] ∧ SamePortMemory s t
        ∧ t.outlets = s.outlets.set o (if x.path = .weak
            then { x with state := .queued, path := .allOpen, gap := none, settle := none, bleed := none }
            else { x with state := .queued, path := if closes then .reserve else x.path })
        ∧ t.tie.queue = s.tie.queue ++ (if placeFree (.outlet o) s
            then [{ seq := s.tie.nextSeq, item := .claim o x.config.priority x.config.weight }] else [])
        ∧ Reported s t none [.outlet o .queued .command]
        ∧ t.replica = s.replica ∧ t.membership = s.membership ∧ t.settings = s.settings ∧ t.shed = s.shed
        ∧ t.rail = s.rail ∧ t.reserve = s.reserve ∧ t.clock = s.clock ∧ t.pins = s.pins)
    ∧ (taken → Lawful s → DefaultSeverity s → tripped = true →
      ∃ t, exec (.outletOn (outletByte o)) s = .next t ∧ Answered s t 18#8 .ok [] ∧ t.outlets[o].state = .fault
        ∧ t.outlets[o].path = .allOpen ∧ namesFault t.report.status .overcurrent = true
        ∧ t.tie.queue = s.tie.queue ∧ isPosted (isClaimOf o) t = false
        ∧ t.replica = s.replica ∧ t.settings = s.settings)
    ∧ (¬synced → x.config.enabled = false → answers .badArgument [])
    ∧ (¬synced → x.config.enabled = true → answers .refusedState [0#8])
    ∧ (start → x.config.enabled = false → answers .badArgument [])
    ∧ (start → x.config.enabled = true → x.config.priority.val < s.replica.shedLevel.val → answers .refusedState [2#8])
    ∧ (synced → x.state ∈ [.stopping, .cancelling] → answers .busy [])
    ∧ (synced → x.state = .fault → answers .refusedState [1#8])
    ∧ (synced → x.state ∈ [.queued, .waiting, .admitted, .soft, .on, .dropped] → answers .ok [])

/-- OUTLET_OFF by the outlet's state: the state reached, the switches, what is posted or kept due and what is answered
(R106, R116, R118 to R121). A QUEUED outlet withdraws its CLAIM, or answers it with CANCEL where it is in flight;
WAITING, ADMITTED, SOFT and an outlet DROPPED from SOFT post CANCEL; ON and an outlet DROPPED from ON post RELEASE. An
outlet that leaves SOFT lets a RESYNC that waited for it be posted (R67). OUTLET_CLEAR takes a FAULT outlet whose frames
are answered to OFF, is BUSY for one whose frames are not, and does nothing elsewhere (R121). -/
def Obligations.OutletOffAndClear : Prop :=
  ∀ (o : OutletNum) (s : State), Ready s → Settled s → DefaultSeverity s →
    let unanswered : Bool := s.outlets[o].claimOutstanding || s.outlets[o].due.isSome
      || isPosted (fun i => i == .cancel o || isReleaseOf o i) s
    (∃ t, exec (.outletOff (outletByte o)) s = .next t ∧ Answered s t 19#8 .ok []
      ∧ t.replica = s.replica ∧ WishFollows s t ∧ t.settings = s.settings ∧ t.shed = s.shed
      ∧ (∀ o' : OutletNum, o' ≠ o → t.outlets[o'].state = s.outlets[o'].state ∧ t.outlets[o'].path = s.outlets[o'].path
          ∧ t.outlets[o'].standing = s.outlets[o'].standing)
      ∧ (s.outlets[o].state = .queued → t.outlets[o].path ≠ .reserve
          ∧ (claimInFlight o s = false → t.outlets[o].state = .off ∧ isPosted (isClaimOf o) t = false)
          ∧ (claimInFlight o s = true → t.outlets[o].state = .cancelling ∧ t.outlets[o].claimOutstanding = true
              ∧ CancelPosted o s t))
      ∧ (s.outlets[o].state ∈ [.waiting, .admitted, .soft] → t.outlets[o].state = .cancelling
          ∧ t.outlets[o].path = .allOpen ∧ t.outlets[o].gap = none ∧ t.outlets[o].settle = none ∧ CancelPosted o s t)
      ∧ (s.outlets[o].state = .on → t.outlets[o].state = .stopping ∧ t.outlets[o].path = .weak
          ∧ t.outlets[o].bleed = some s.outlets[o].config.bleedTime.val ∧ ReleasePosted o s t)
      ∧ (s.outlets[o].state = .dropped → t.outlets[o].heldAs = none
          ∧ (s.outlets[o].heldAs = some .on → t.outlets[o].state = .stopping ∧ t.outlets[o].path = s.outlets[o].path
              ∧ t.outlets[o].bleed = s.outlets[o].bleed ∧ ReleasePosted o s t)
          ∧ (s.outlets[o].heldAs = some .soft → t.outlets[o].state = .cancelling ∧ CancelPosted o s t))
      ∧ (s.outlets[o].state = .shed → t.outlets[o].state = .off ∧ t.outlets[o].path = .allOpen)
      ∧ (s.outlets[o].state ∈ [.off, .stopping, .cancelling, .fault] → OnlyPort s t)
      ∧ (s.outlets[o].state ∉ [.off, .stopping, .cancelling, .fault] →
          Reported s t none [.outlet o t.outlets[o].state .command]))
    ∧ (s.outlets[o].state = .fault → unanswered = false →
      ∃ t, exec (.outletClear (outletByte o)) s = .next t ∧ Answered s t 20#8 .ok [] ∧ SamePortMemory s t
        ∧ t.outlets = s.outlets.set o { s.outlets[o] with state := .off }
        ∧ t.replica = s.replica ∧ t.membership = s.membership ∧ t.tie = s.tie ∧ t.settings = s.settings ∧ t.shed = s.shed)
    ∧ (s.outlets[o].state = .fault → unanswered = true →
      ∃ t, exec (.outletClear (outletByte o)) s = .next t ∧ Answered s t 20#8 .busy [] ∧ OnlyPort s t)
    ∧ (s.outlets[o].state ≠ .fault →
      ∃ t, exec (.outletClear (outletByte o)) s = .next t ∧ Answered s t 20#8 .ok [] ∧ OnlyPort s t)

/-- The SHED command is refused outside SYNCED (R141). In SYNCED it raises a demand: dropped at local level 8; from a
READY line a pulse is driven and counted and SHED posted at the new local level; else it is met by the pulse last
counted (R139, R141, R142, R145). That the count, the step timer and the drop come in the command's own treatment, with
no SHED_PULSE row after it, is the model's reading, log entry 9. A posted SHED has its level raised instead (R107), and
at local count 0 nothing is posted (R145). -/
def Obligations.ShedCommandDemands : Prop :=
  ∀ s : State, Ready s →
    (s.membership.station ≠ .synced → ∃ t, exec .shed s = .next t ∧ Answered s t 21#8 .refusedState [0#8] ∧ OnlyPort s t)
    ∧ (Settled s → DefaultSeverity s → s.membership.station = .synced →
      (Lawful s → ∃ t, exec .shed s = .next t ∧ Answered s t 21#8 .ok [] ∧ Demanded s t ∧ Reported s t none (demandRecords s)
        ∧ t.replica = s.replica ∧ t.membership = s.membership ∧ t.settings = s.settings)
      ∧ (8 ≤ localLevel s → ∃ t, exec .shed s = .next t ∧ Answered s t 21#8 .ok [] ∧ OnlyPort s t)
      ∧ (localLevel s < 8 → s.shed.line = .ready → placeFree .shed s = true →
        ∃ t, exec .shed s = .next t ∧ Answered s t 21#8 .ok [] ∧ t.shed.line = .asserted ∧ t.shed.driving = true
          ∧ t.shed.localCount.val = s.shed.localCount.val + 1
          ∧ t.shed.stepTimer = some s.settings.station.stepInterval.val ∧ t.shed.frameWait = none
          ∧ isPosted (fun i => i == .shed (toLevel (localLevel s + 1))) t = true
          ∧ (∀ o : OutletNum, s.outlets[o].state = .on → s.outlets[o].config.priority.val ≤ localLevel s →
              t.outlets[o].state = .dropped ∧ t.outlets[o].path = .weak)
          ∧ (∀ o : OutletNum, localLevel s < s.outlets[o].config.priority.val →
              t.outlets[o].state = s.outlets[o].state ∧ t.outlets[o].path = s.outlets[o].path)
          ∧ t.replica = s.replica ∧ t.membership = s.membership ∧ t.settings = s.settings)
      ∧ (localLevel s < 8 → s.shed.line ≠ .ready → placeFree .shed s = true → s.shed.localCount ≠ 0 →
        drainLawful s → (∀ o : OutletNum, s.outlets[o].due = none) →
        ∃ t, exec .shed s = .next t ∧ Answered s t 21#8 .ok [] ∧ SamePortMemory s t
          ∧ t = { served s t with
              shed := { s.shed with frameWait := none }
              tie := { s.tie with
                queue := s.tie.queue ++ [{ seq := s.tie.nextSeq, item := .shed (toLevel (localLevel s)) }]
                nextSeq := s.tie.nextSeq + 1 } })
      ∧ (localLevel s < 8 → s.shed.line ≠ .ready → isPosted isShed s = true → s.shed.localCount ≠ 0 →
        ∃ t, exec .shed s = .next t ∧ Answered s t 21#8 .ok [] ∧ SamePortMemory s t
          ∧ t = { served s t with
              shed := { s.shed with frameWait := none }
              tie := { s.tie with
                queue := s.tie.queue.map fun q => match q.item with
                  | .shed l => if l.val < localLevel s then { q with item := .shed (toLevel (localLevel s)) } else q
                  | _ => q } })
      ∧ (localLevel s < 8 → s.shed.line ≠ .ready → s.shed.localCount = 0 →
        ∃ t, exec .shed s = .next t ∧ Answered s t 21#8 .ok [] ∧ OnlyPort s t))

/-- LEAVE is refused outside SYNCED and REFUSED and while an outlet is not OFF, and BUSY while the membership place is
taken; RESYNC is refused outside SYNCED (R176). LEAVE from SYNCED with every outlet OFF posts LEAVE and enters LEAVING;
from REFUSED it enters CONFIG, settings kept and unsealed; RESYNC from SYNCED enters RESYNCING with attempt 1, and
RESYNC is posted unless an outlet is in SOFT or the place is taken (R67, R76, R176). -/
def Obligations.MembershipCommands : Prop :=
  ∀ s : State, Ready s →
    let answers (c : Instr) (code : Byte) (st : Status) (data : List Byte) : Prop :=
      ∃ t, exec c s = .next t ∧ Answered s t code st data ∧ OnlyPort s t
    let off : Prop := ∀ o : OutletNum, s.outlets[o].state = .off
    (s.membership.station ∉ [.synced, .refused] → answers .leave 23#8 .refusedState [0#8])
    ∧ (s.membership.station = .synced → ¬off → answers .leave 23#8 .refusedState [4#8])
    ∧ (s.membership.station = .synced → off → placeFree .membership s = false → answers .leave 23#8 .busy [])
    ∧ (s.membership.station ≠ .synced → answers .resync 25#8 .refusedState [0#8])
    ∧ (Settled s → DefaultSeverity s →
      (s.membership.station = .synced → off → placeFree .membership s = true →
        ∃ t, exec .leave s = .next t ∧ Answered s t 23#8 .ok [] ∧ t.membership.station = .leaving
          ∧ isPosted (fun i => i == .leave) t = true ∧ t.replica = s.replica ∧ t.settings = s.settings
          ∧ (∀ o : OutletNum, t.outlets[o].state = .off) ∧ Reported s t none [.station .leaving .command])
      ∧ (s.membership.station = .refused →
        ∃ t, exec .leave s = .next t ∧ Answered s t 23#8 .ok [] ∧ t.membership.station = .config
          ∧ Reported s t none [.station .config .command]
          ∧ t.settings = { s.settings with digest := none, awaitingLock := false } ∧ t.replica = s.replica)
      ∧ (s.membership.station = .synced →
        ∃ t, exec .resync s = .next t ∧ Answered s t 25#8 .ok [] ∧ t.membership.station = .resyncing
          ∧ t.membership.attempt = 1 ∧ t.membership.foundingMark = false ∧ t.replica = s.replica ∧ t.settings = s.settings
          ∧ (∀ n : StationNum, t.membership.peers[n].duty = .none)
          ∧ (∀ o : OutletNum, t.outlets[o].state = s.outlets[o].state ∧ t.outlets[o].path = s.outlets[o].path)
          ∧ (anySoft s = false → placeFree .membership s = true → isPosted (fun i => i == .resync false) t = true)
          ∧ (anySoft s = true → t.membership.resyncWish = .first) ∧ Reported s t none [.station .resyncing .command]))

/-- RESTORE (R151) and FORGET (R78, R176): their conditions in order, each with its answer, then the frame posted. -/
def Obligations.RestoreAndForgetConditions : Prop :=
  ∀ (n : StationNum) (s : State), Ready s →
    let answers (c : Instr) (code : Byte) (st : Status) (data : List Byte) : Prop :=
      ∃ t, exec c s = .next t ∧ Answered s t code st data ∧ OnlyPort s t
    let posts (c : Instr) (code : Byte) (item : QueueItem) : Prop :=
      ∃ t, exec c s = .next t ∧ Answered s t code .ok [] ∧ SamePortMemory s t
        ∧ t = { served s t with
            tie := { s.tie with
              queue := s.tie.queue ++ [{ seq := s.tie.nextSeq, item := item }], nextSeq := s.tie.nextSeq + 1 } }
    let lift : Instr := .restore
    let drop : Instr := .forget (stationByte n)
    let target : Prop := n ≠ s.number ∧ s.membership.peers[n].presence = .lost
    (s.membership.station ≠ .synced → answers lift 22#8 .refusedState [0#8] ∧ answers drop 24#8 .refusedState [0#8])
      ∧ (s.membership.station = .synced → s.rail.live = true → answers lift 22#8 .refusedState [3#8])
      ∧ (s.membership.station = .synced → s.rail.live = false →
          placeFree .shed s = false ∨ s.shed.postPending = true → answers lift 22#8 .busy [])
      ∧ (s.membership.station = .synced → s.rail.live = false → placeFree .shed s = true → s.shed.postPending = false →
          posts lift 22#8 .restore)
      ∧ (s.membership.station = .synced → ¬target → answers drop 24#8 .refusedState [5#8])
      ∧ (s.membership.station = .synced → target → placeFree .membership s = false → answers drop 24#8 .busy [])
      ∧ (s.membership.station = .synced → target → placeFree .membership s = true → posts drop 24#8 (.forget n))

/-! ## The tie bus -/

/-- Twelve recessive bits: a SEEKING interface becomes ACTIVE, or LISTENING in ISOLATED; an interface that is OFF, or
that sends, is not concerned (R83); that a row given there leaves the state as it was is the model's choice, log entry
4. What an expiry of the snapshot wait that was put off does there is in `SnapshotWaitExpiry`. -/
def Obligations.BusIdleReached : Prop :=
  ∀ s : State,
    (s.resetting = none → s.tie.mode ≠ .off → s.tie.tx = none → s.membership.waitExpired = false → Settled s →
      Goes (exec .busIdle s) { s with
        tie := { s.tie with
          mode := if s.tie.mode = .seeking then (if s.membership.station = .isolated then .listening else .active)
            else s.tie.mode
          recessive := 12, aborting := false, receiving := false } })
    ∧ (s.tie.mode = .off ∨ s.tie.tx ≠ none → Goes (exec .busIdle s) s)

/-- What a sender drives up to the veto slot is read by every receiver as the frame it stands for, and that frame is
good: for every frame whose lists have the counts of a good frame (R84, R85, R90, R199, R200, R201). -/
def Obligations.FramesAreReadAsSent : Prop :=
  ∀ f : TieFrame, carriable f.body = true →
    ∃ span, wireBits f = span ++ [true, true, true, true] ∧ readFrame span = some (rawOf f) ∧ frameGood (rawOf f) = true

/-- At idle an ACTIVE interface starts an attempt of the eligible frame of lowest kind code, the earliest posted among
equals, composed at that bit; with no eligible frame nothing happens (R86, R89, R103). -/
def Obligations.AttemptOfFirstEligibleFrame : Prop :=
  ∀ s : State, s.resetting = none → s.tie.mode = .active → s.tie.recessive = 12 → s.tie.tx = none →
    s.tie.receiving = false →
    ((∀ q ∈ s.tie.queue, eligible s.membership.station q = false) → Goes (exec .startAttempt s) s)
    ∧ ((∃ q ∈ s.tie.queue, eligible s.membership.station q = true) →
      ∃ q ∈ s.tie.queue, eligible s.membership.station q = true
        ∧ (∀ q' ∈ s.tie.queue, eligible s.membership.station q' = true →
            itemKind q.item < itemKind q'.item ∨ (itemKind q.item = itemKind q'.item ∧ q.seq ≤ q'.seq))
        ∧ Goes (exec .startAttempt s) { s with
            tie := { s.tie with
              tx := some { seq := q.seq, frame := ⟨s.number, composeBody s q⟩, wire := wireBits ⟨s.number, composeBody s q⟩ }
              recessive := 0 } })

/-- Which posted frames may be chosen in a station state (R103), and what each carries in an attempt that starts now:
the values it was posted with, and three composed at that moment (R89). A PRESENCE carries the state check (R14); a
SNAPSHOT the digest, the state check and a content from which the whole replica is read back, with the rows that hold
units in station order (R60); a RESYNC the digest, the units of own outlets by priority where R68 counts them, and its
ADMITTED outlets and those DROPPED as SOFT in outlet order (R68). That R68's "not yet accepted" counts an outlet in
STOPPING while its RELEASE is posted or due is the model's reading, log entry 22. -/
def Obligations.WhatFramesCarry : Prop :=
  ∀ (s : State) (q : Posted),
    let kind := itemKind q.item
    (∀ st : StationState, eligible st q = match st with
      | .synced | .leaving => true
      | .joining => decide (4 ≤ kind ∧ kind ≤ 7)
      | .resyncing => decide (¬(8 ≤ kind ∧ kind ≤ 11))
      | .mute => q.item == .resync true
      | _ => false)
    ∧ (match q.item with
      | .shed l => composeBody s q = .shed (BitVec.ofNat 8 l.val) ∧ kind = 0
      | .restore => composeBody s q = .restore ∧ kind = 1
      | .snapshot n => kind = 2 ∧ ∃ content, composeBody s q = .snapshot (BitVec.ofNat 8 n.val) content
          ∧ content.digest = ownDigest s ∧ content.check = s.check ∧ replicaOf content = s.replica
          ∧ strictlyRising (content.rows.map fun w => w.station.toNat) = true
          ∧ (∀ w ∈ content.rows, rowTotal w.bins ≠ 0) ∧ ∀ w ∈ content.wait ++ content.start, w.pad = 0
      | .refuse n d => composeBody s q = .refuse (BitVec.ofNat 8 n.val) d ∧ kind = 3
      | .join d => composeBody s q = .join d ∧ kind = 4
      | .resync _ => kind = 5 ∧ ∃ content, composeBody s q = .resync content ∧ content.digest = ownDigest s
          ∧ (∀ p : Prio, content.bins[p] = Sys2Proof.toUnits ((allOutlets.map fun o =>
              let x := s.outlets[o]
              let counts : Bool := x.state ∈ [.admitted, .on, .dropped]
                || (x.state == .stopping && (isPosted (isReleaseOf o) s || x.due == some .release))
                || (x.state ∈ [.fault, .shed] && s.tie.queue.any fun r => isReleaseOf o r.item && q.seq < r.seq)
              if x.config.priority = p ∧ counts = true then x.config.weight.val else 0).sum))
          ∧ content.entries = (allOutlets.filter fun o => s.outlets[o].state == .admitted
              || (s.outlets[o].state == .dropped && s.outlets[o].heldAs == some .soft)).map fun o =>
                ⟨s.number, o, s.outlets[o].config.priority, s.outlets[o].config.weight, 0⟩
      | .leave => composeBody s q = .leave ∧ kind = 6
      | .forget n => composeBody s q = .forget (BitVec.ofNat 8 n.val) ∧ kind = 7
      | .started o => composeBody s q = .started (BitVec.ofNat 8 o.val) ∧ kind = 8
      | .cancel o => composeBody s q = .cancel (BitVec.ofNat 8 o.val) ∧ kind = 9
      | .release o p w => composeBody s q = .release (BitVec.ofNat 8 o.val) (priorityField p) w ∧ kind = 10
      | .claim o p w => composeBody s q = .claim (BitVec.ofNat 8 o.val) (priorityField p) w ∧ kind = 11
      | .presence => composeBody s q = .presence s.check ∧ kind = 12)

/-- Losing arbitration takes the frame out of flight with its count unchanged (R87), the attempt of MUTE too (R73); a
bit error or a veto fails the attempt: the frame leaves flight, its count is raised by one and it stays posted in its
place (R88, R94, R95); that a sender whose vetoing is suppressed drives no abort mark at its bit error is log entry 47
(R98). A frame marked for withdrawal is withdrawn at either end of its attempt, and the attempt of MUTE at its failure:
no count, no fault, the drain set without it, the other frames as they were (R73, R95, R105, R177); a RESTORE so
withdrawn in favour of SHED is followed by SHED at the local level (R145). -/
def Obligations.AttemptLeavesFlight : Prop :=
  ∀ (s : State) (q : Posted) (rx : RawFrame),
    let counted := s.tie.queue.map fun p => if p.seq == q.seq then { p with failed := q.failed + 1 } else p
    let withdrawn (t : State) : Prop := t.tie.tx = none ∧ (∀ p ∈ t.tie.queue, p.seq ≠ q.seq)
      ∧ (∀ p ∈ s.tie.queue, p.seq ≠ q.seq → p ∈ t.tie.queue)
      ∧ t.port.drainSet = s.port.drainSet.filter (· != q.seq) ∧ t.port.drained = t.port.drainSet.isEmpty
      ∧ t.report = s.report ∧ t.replica = s.replica ∧ t.settings = s.settings ∧ t.rail = s.rail ∧ t.reserve = s.reserve
      ∧ t.membership.station = s.membership.station
      ∧ (∀ o : OutletNum, t.outlets[o] = { s.outlets[o] with due := t.outlets[o].due })
      ∧ t.shed = { s.shed with postPending := false }
      ∧ (s.shed.postPending = true → q.item = .restore
          ∧ isPosted (fun i => i == .shed (toLevel (localLevel s))) t = true)
    (Sending s q → Settled s →
      Goes (exec .arbitrationLost s) { s with tie := { s.tie with tx := none, receiving := true } }
      ∧ (q.failed.val < 3 → Goes (exec .abortMark s) { s with
          tie := { s.tie with tx := none, queue := counted, aborting := !s.tie.suppressed, recessive := 0 } })
      ∧ (q.failed.val < 3 → delivers s = true → s.membership.waitExpired = false →
          Goes (exec (.frameVetoed rx) s) { s with
            tie := { s.tie with tx := none, queue := counted, receiving := false, recessive := 0 } }))
    ∧ (Lawful s → s.resetting = none → flying s = some q →
      (q.marked = true → ∃ t, exec .arbitrationLost s = .next t ∧ withdrawn t ∧ t.tie.receiving = true)
      ∧ (q.marked = false → q.item = .resync true →
          Goes (exec .arbitrationLost s) { s with tie := { s.tie with tx := none, receiving := true } })
      ∧ (q.marked = true ∨ q.item = .resync true →
          (∃ t, exec .abortMark s = .next t ∧ withdrawn t ∧ t.tie.aborting = !s.tie.suppressed ∧ t.tie.recessive = 0)
          ∧ ∃ t, exec (.frameVetoed rx) s = .next t ∧ withdrawn t ∧ t.tie.aborting = s.tie.aborting
              ∧ t.tie.recessive = 0))

/-- The fourth failed attempt, by a bit error or a veto, in SYNCED, RESYNCING or LEAVING records SEND_FAILED and takes
the station to MUTE with the isolation timer at four presence intervals (R72, R94 to R96). In JOINING the frame is
withdrawn; with the JOIN the attempt ends: JOIN again with the attempt count raised, or after the third CONFIG with
JOIN_TIMEOUT (R57, R72). A SEND_FAILED that SET_LOCAL has written fatal isolates the station from MUTE, and from
JOINING, when the treatment is complete, but not where that treatment ends in CONFIG (R75, R188; the order of the
records is log entries 16, 36 and 49). -/
def Obligations.FourthFailureMutes : Prop :=
  ∀ (c : Instr) (rx : RawFrame) (s : State) (q : Posted), c = .abortMark ∨ c = .frameVetoed rx ∧ delivers s = true →
    Sending s q → q.failed = 3 → s.report.escalate = false →
    (DefaultSeverity s → s.membership.station ∈ [.synced, .resyncing, .leaving] →
      ∃ t, exec c s = .next t ∧ t.membership.station = .mute
        ∧ namesFault t.report.status .sendFailed = true
        ∧ t.membership.isolationTimer = some (4 * s.settings.shared.presence.val)
        ∧ t.membership.muteTimer = some s.settings.shared.presence.val ∧ t.membership.presenceTimer = none
        ∧ (∀ p ∈ t.tie.queue, isMembershipClass p.item = false)
        ∧ (Settled s → Reported s t (some .sendFailed) [.fault .sendFailed, .station .mute .sendFailed])
        ∧ t.replica = s.replica ∧ t.settings = s.settings ∧ t.tie.tx = none)
    ∧ (Calm s → WrittenFatal .sendFailed s →
      (s.membership.station ∈ [.synced, .resyncing, .leaving] →
        ∃ t, exec c s = .next t ∧ Isolated s.replica s t ∧ namesFault t.report.status .sendFailed = true
          ∧ Reported s t (some .sendFailed)
              (.fault .sendFailed :: .station .mute .sendFailed :: isolationRecords (isOff s)))
      ∧ (s.membership.station = .joining → (∃ d, q.item = .join d) → s.membership.attempt = 3 →
        ∃ t, exec c s = .next t ∧ t.membership.station = .config ∧ t.settings.digest = none)
      ∧ (s.membership.station = .joining → (∀ d, q.item ≠ .join d) ∨ s.membership.attempt.val < 3 →
        ∃ t, exec c s = .next t ∧ Isolated s.replica s t ∧ namesFault t.report.status .sendFailed = true))
    ∧ (DefaultSeverity s → s.membership.station = .joining → Lawful s →
      ∃ t, exec c s = .next t ∧ namesFault t.report.status .sendFailed = true ∧ t.tie.tx = none
        ∧ t.replica = s.replica ∧ t.settings.shared = s.settings.shared ∧ (∀ p ∈ t.tie.queue, p.seq ≠ q.seq)
        ∧ (∀ d, q.item = .join d → s.membership.attempt.val < 3 → t.membership.station = .joining
            ∧ t.membership.attempt.val = s.membership.attempt.val + 1 ∧ t.membership.awaiting = false
            ∧ t.membership.snapshotWait = none ∧ isPosted (fun i => i == .join (ownDigest s)) t = true)
        ∧ (∀ d, q.item = .join d → s.membership.attempt = 3 → t.membership.station = .config ∧ t.settings.digest = none
            ∧ namesFault t.report.status .joinTimeout = true)
        ∧ ((∀ d, q.item ≠ .join d) → t.membership = s.membership ∧ t.settings = s.settings))

/-- A receiver's veto, at the slot or by the abort mark of a format error that was no dominant run, raises the veto run
count; a dominant run does not; a good frame vetoed by another station leaves the count; the eighth veto suppresses
vetoing, records VETO_LIMIT and takes a SYNCED station to RESYNCING, and a station in any other state stays (R67, R91,
R92, R97). That the abort mark that is itself the eighth veto is driven on beside the suppression is log entry 41; that
a full queue leaves the pointer to VETO_LIMIT is log entry 37; that the FAULT record comes before the STATION record is
log entry 16. While suppressed the station neither counts nor aborts; a
frame of another station that it finds good at the veto slot ends the suppression with the count at 0, accepted or not,
which the acceptance of its own frame does not (R98). Any other acceptance sets the count to 0 (R97). A VETO_LIMIT that
SET_LOCAL has written fatal isolates a member or a joiner at the eighth veto (R75, R188). -/
def Obligations.VetoRunCount : Prop :=
  ∀ (s : State) (rx : RawFrame), s.resetting = none →
    let unveto (t : State) : Prop := t.tie.vetoRun = 0 ∧ t.tie.suppressed = false
    let eighth (t : State) : Prop := t.tie.suppressed = true ∧ t.tie.vetoRun = 8
      ∧ namesFault t.report.status .vetoLimit = true ∧ t.replica = s.replica ∧ t.settings = s.settings
      ∧ (s.membership.station = .synced → t.membership.station = .resyncing ∧ t.membership.attempt = 1
          ∧ Reported s t (some .vetoLimit) [.fault .vetoLimit, .station .resyncing .vetoLimit])
      ∧ (s.membership.station ≠ .synced → t.membership.station = s.membership.station)
    (∀ c f, frameOf c = some f → delivers s = true → carriable f.body = true →
      (s.tie.tx = none → ∃ t, exec c s = .next t ∧ unveto t)
      ∧ (∀ x, s.tie.tx = some x → x.frame = f → ∃ t, exec c s = .next t ∧ (s.tie.suppressed = false → unveto t)
          ∧ (s.tie.suppressed = true → t.tie.vetoRun = s.tie.vetoRun ∧ t.tie.suppressed = true)))
    ∧ (s.tie.mode = .active → s.tie.tx = none → s.membership.waitExpired = false → Settled s → s.tie.suppressed = true →
      (∀ run, Goes (exec (.formatError run) s) { s with tie := { s.tie with receiving := false, recessive := 0 } })
      ∧ (frameGood rx = false → Goes (exec (.frameVetoed rx) s) { s with
          tie := { s.tie with receiving := false, recessive := 0 } })
      ∧ (frameGood rx = true → Goes (exec (.frameVetoed rx) s) { s with
          tie := { s.tie with vetoRun := 0, suppressed := false, receiving := false, recessive := 0 } }))
    ∧ (s.tie.mode = .active → s.tie.tx = none → s.membership.waitExpired = false → Settled s → s.tie.suppressed = false →
      (frameGood rx = false → s.tie.vetoRun.val < 7 → Goes (exec (.frameVetoed rx) s) { s with
          tie := { s.tie with vetoRun := s.tie.vetoRun + 1, receiving := false, recessive := 0 } })
      ∧ (frameGood rx = true → Goes (exec (.frameVetoed rx) s) { s with
          tie := { s.tie with receiving := false, recessive := 0 } })
      ∧ (s.tie.vetoRun.val < 7 → Goes (exec (.formatError false) s) { s with
          tie := { s.tie with vetoRun := s.tie.vetoRun + 1, aborting := true, receiving := false, recessive := 0 } })
      ∧ Goes (exec (.formatError true) s) { s with
          tie := { s.tie with aborting := true, receiving := false, recessive := 0 } }
      ∧ (s.tie.vetoRun = 7 → s.membership.station ≠ .dormant → DefaultSeverity s →
        (frameGood rx = false → ∃ t, exec (.frameVetoed rx) s = .next t ∧ eighth t ∧ t.tie.aborting = s.tie.aborting)
        ∧ ∃ t, exec (.formatError false) s = .next t ∧ eighth t ∧ t.tie.aborting = true)
      ∧ (s.tie.vetoRun = 7 → s.membership.station ∈ [.joining, .synced, .resyncing, .mute, .leaving] →
        WrittenFatal .vetoLimit s →
        let isolates (t : State) : Prop := Isolated s.replica s t ∧ t.tie.suppressed = true ∧ t.tie.vetoRun = 8
          ∧ namesFault t.report.status .vetoLimit = true
        (frameGood rx = false → ∃ t, exec (.frameVetoed rx) s = .next t ∧ isolates t)
        ∧ ∃ t, exec (.formatError false) s = .next t ∧ isolates t))

/-! ## Acceptance and the shared account -/

/-- In SYNCED, RESYNCING, MUTE and LEAVING every accepted frame, another station's or this station's own, makes the
replica the account unit's function of the old replica, the frame, the sealed settings and their digest, with the state
check recomputed (R1, R14, R20, R23, R71); a total above C after it is recorded as OVERCOMMIT, at a frame that is
ignored too (R4, log entry 15), and what the account finds foreign as FOREIGN_FRAME (R24, R38, R147, R152, R202);
either, if SET_LOCAL has written it fatal, isolates the station with the replica so made frozen (R75, R136, R188). Not
where the treatment goes on to replace the account: the own LEAVE in LEAVING, a SNAPSHOT that it awaits or a REFUSE for
this station in RESYNCING. An own accepted frame leaves the send queue, and the drain set keeps exactly what is still
posted, the drained flag set when nothing is left of it (R101, R177); a frame of its outlet that was due is then posted
(R116); the presence timer starts again (R53). -/
def Obligations.AcceptedFrameMakesReplica : Prop :=
  ∀ (c : Instr) (f : TieFrame) (s : State), frameOf c = some f → s.resetting = none → delivers s = true →
    carriable f.body = true →
    let leaves : Prop := s.membership.station = .leaving ∧ f.body = .leave
    (s.membership.station ∈ [.synced, .mute, .leaving] ∨ s.membership.station = .resyncing ∧ answersJoin s f.body = false →
      s.tie.tx = none ∨ ((∃ x, s.tie.tx = some x ∧ x.frame = f) ∧ ¬leaves) →
      ∃ t, exec c s = .next t
        ∧ t.replica = (accountChange s.settings.shared s.settings.digest s.replica f).replica
        ∧ t.check = checkOf t.replica
        ∧ (s.settings.shared.capacity.val < accountTotal t.replica → namesFault t.report.status .overcommit = true
            ∧ (WrittenFatal .overcommit s → Isolated t.replica s t))
        ∧ ((accountChange s.settings.shared s.settings.digest s.replica f).foreign = true →
            namesFault t.report.status .foreignFrame = true ∧ (WrittenFatal .foreignFrame s → Isolated t.replica s t))
        ∧ t.number = s.number ∧ t.settings = s.settings ∧ t.clock = s.clock ∧ t.resetting = none
        ∧ (∀ o : OutletNum, t.outlets[o].config = s.outlets[o].config))
    ∧ (Steady s → ∀ x, s.tie.tx = some x → x.frame = f →
      ∃ t, exec c s = .next t ∧ t.tie.tx = none ∧ (∀ q ∈ t.tie.queue, q.seq ≠ x.seq)
        ∧ t.port.drainSet = s.port.drainSet.filter (fun n => t.tie.queue.any fun q => q.seq == n)
        ∧ t.port.drained = t.port.drainSet.isEmpty
        ∧ (∀ q ∈ s.tie.queue, q.seq = x.seq → ∀ (o : OutletNum) (d : DueFrame), placeOf q.item = .outlet o →
            s.outlets[o].due = some d → isPosted (fun i => i == dueItem o s.outlets[o].config d) t = true)
        ∧ (s.membership.station ∈ [.synced, .leaving] → ¬leaves →
            t.membership.presenceTimer = some s.settings.shared.presence.val))

/-- Acceptances that take the station out of the account. Its own LEAVE in LEAVING: CONFIG with cause LEFT, the replica,
the presences and the queue emptied, the settings kept and unsealed, the tie interface and the clocks running on (R77);
that the silence counts of the entries that so become ABSENT are 0 is the model's choice, log entry 46, and that the
STATION record is the last of the treatment its reading, log entry 36.
A FORGET that names it in a state whose replica follows records FORGOTTEN (R79), a frame of another station with its own
number DUPLICATE_NUMBER (R99); both are fatal whatever is written, so that it is ISOLATED when the treatment is
complete, with the replica as the acceptance left it, every outlet OFF and open and the queue empty (R75, R136, R188).
In JOINING and RESYNCING so does a duplicate that is no JOIN, SNAPSHOT or REFUSE; in CONFIG, REFUSED and ISOLATED the
duplicate is recorded only (R99). -/
def Obligations.AcceptanceTakesStationOut : Prop :=
  ∀ (c : Instr) (f : TieFrame) (s : State), frameOf c = some f → s.resetting = none → delivers s = true →
    carriable f.body = true →
    let out (t : State) (fault : FaultName) : Prop := t.membership.station = .isolated
      ∧ namesFault t.report.status fault = true ∧ t.tie.queue = [] ∧ t.tie.mode ≠ .active ∧ allSwitchesOpen t
      ∧ (∀ o : OutletNum, t.outlets[o].state = .off) ∧ t.settings = s.settings
    let follows (t : State) : Prop :=
      t.replica = (accountChange s.settings.shared s.settings.digest s.replica f).replica ∧ t.check = checkOf t.replica
    let refusing : Bool := match f.body with | .join _ | .snapshot .. | .refuse .. => true | _ => false
    (Steady s → s.membership.station = .leaving → f = ⟨s.number, .leave⟩ → (∃ x, s.tie.tx = some x ∧ x.frame = f) →
      ∃ t, exec c s = .next t ∧ t.membership.station = .config ∧ t.replica = .empty ∧ t.check = checkOf .empty
        ∧ t.tie.queue = [] ∧ t.tie.tx = none ∧ t.tie.mode = s.tie.mode ∧ t.clock = s.clock
        ∧ (∀ n : StationNum, t.membership.peers[n]
            = { s.membership.peers[n] with presence := .absent, silence := 0, duty := .none })
        ∧ t.settings = { s.settings with digest := none, awaitingLock := false } ∧ t.membership.presenceTimer = none
        ∧ (s.report.events.length ≤ 15 → s.settings.station.enable.getLsbD 1 = true →
            t.report.events.getLast? = some (.station .config .left)))
    ∧ (s.tie.tx = none → f.sender ≠ s.number → following s = true → f.body = .forget (stationByte s.number) →
      ∃ t, exec c s = .next t ∧ out t .forgotten ∧ follows t)
    ∧ (s.tie.tx = none → f.sender = s.number →
      (s.membership.station ∈ [.synced, .mute, .leaving] →
        ∃ t, exec c s = .next t ∧ out t .duplicateNumber ∧ follows t)
      ∧ (s.membership.station ∈ [.joining, .resyncing] → s.membership.waitExpired = false → refusing = false →
        ∃ t, exec c s = .next t ∧ out t .duplicateNumber)
      ∧ (s.membership.station ∈ [.config, .refused, .isolated] → s.membership.waitExpired = false →
        ∃ t, exec c s = .next t ∧ t.membership.station = s.membership.station ∧ t.replica = s.replica
          ∧ namesFault t.report.status .duplicateNumber = true ∧ ∀ o : OutletNum, t.outlets[o].state = s.outlets[o].state))

/-- In CONFIG, REFUSED and ISOLATED an accepted frame changes neither the replica nor the peer table nor an outlet (R20,
R80). -/
def Obligations.FrozenReplicaIsKept : Prop :=
  ∀ (c : Instr) (f : TieFrame) (s : State), frameOf c = some f → Receiving s → carriable f.body = true →
    s.membership.station ∈ [.config, .refused, .isolated] → Settled s → s.membership.waitExpired = false →
    ∃ t, exec c s = .next t ∧ t.replica = s.replica ∧ t.check = s.check ∧ t.membership = s.membership
      ∧ t.outlets = s.outlets ∧ t.settings = s.settings ∧ t.tie.queue = s.tie.queue ∧ t.shed = s.shed

/-- Two SYNCED stations with equal replicas, equal sealed settings and digest that accept the same frame, each as its
sender or as a receiver, have equal replicas and state checks afterwards (R1, R23). -/
def Obligations.EqualReplicasStayEqual : Prop :=
  ∀ (c : Instr) (f : TieFrame) (s₁ s₂ : State), frameOf c = some f → carriable f.body = true →
    (∀ s ∈ [s₁, s₂], s.resetting = none ∧ delivers s = true ∧ s.membership.station = .synced
      ∧ (s.tie.tx = none ∨ ∃ x, s.tie.tx = some x ∧ x.frame = f)) →
    s₁.replica = s₂.replica → s₁.settings.shared = s₂.settings.shared → s₁.settings.digest = s₂.settings.digest →
    ∃ t₁ t₂, exec c s₁ = .next t₁ ∧ exec c s₂ = .next t₂ ∧ t₁.replica = t₂.replica ∧ t₁.check = t₂.check

/-- The limit for a priority: C - E below the essential priority, C at or above it (R15). -/
def Obligations.LimitByPriority : Prop :=
  ∀ (c : SharedSettings) (p : Prio),
    (p.val < c.essential.val → limit c p = c.capacity.val - c.headroom.val)
      ∧ (c.essential.val ≤ p.val → limit c p = c.capacity.val)

/-- The tests of a CLAIM in order: member, shed level, oversize, a standing entry, fit with the wait order, room in the
wait list (R25 to R31). -/
def Obligations.ClaimTestsInOrder : Prop :=
  ∀ (c : SharedSettings) (r : Replica) (e : Entry),
    let stands : Bool := (r.wait ++ r.start).any fun x => x.station == e.station && x.outlet == e.outlet
    let tooBig : Prop := limit c e.priority < e.weight.val ∨ (effectiveCap c).val < e.weight.val
    let fitsNow : Prop := accountTotal r + e.weight.val ≤ limit c e.priority
      ∧ rowTotal r.rows[e.station] + e.weight.val ≤ (effectiveCap c).val ∧ r.start.length < 32
    (inSet r.members e.station = false → claimOutcome c r e = .denied .notMember)
      ∧ (inSet r.members e.station = true →
        (e.priority.val < r.shedLevel.val → claimOutcome c r e = .denied .shedLevel)
        ∧ (r.shedLevel.val ≤ e.priority.val →
          (tooBig → claimOutcome c r e = .denied .oversize)
          ∧ (¬tooBig →
            (stands = true → claimOutcome c r e = .denied .duplicate)
            ∧ (stands = false →
              (fitsNow → c.order = .fit ∨ r.wait = [] → claimOutcome c r e = .admitted)
              ∧ (¬(fitsNow ∧ (c.order = .fit ∨ r.wait = [])) → r.wait.length < 32 → claimOutcome c r e = .waiting)
              ∧ (¬(fitsNow ∧ (c.order = .fit ∨ r.wait = [])) → 32 ≤ r.wait.length →
                  claimOutcome c r e = .denied .listFull)))))

/-- What an accepted CLAIM does to the account before its pass: an admitted entry joins the start queue and its weight
its bin, a waiting one the wait list, a denied one nothing; FOREIGN_FRAME for a non-member alone (R7, R25, R30 to R32).
A CLAIM with an outlet or priority above 7, or a weight of 0, is ignored with FOREIGN_FRAME: nothing changes but by the
pass; for a weight of 0 the sender's own report is DENIED for OVERSIZE with the standing unchanged, for the others no
own report is given (R24). -/
def Obligations.ClaimChangesAccount : Prop :=
  ∀ (c : SharedSettings) (d : Option Half) (r : Replica) (s : StationNum) (o : OutletNum) (p : Prio) (w : Units) (k : Nat),
    (∀ (b : Byte) (high : Fin 16), 8 ≤ b.toNat ∨ 8 ≤ high.val →
      let ignored := accountChange c d r ⟨s, .claim b high w⟩
      ignored = { replica := admissionPass c r, foreign := true }
        ∧ ∀ rep ∈ reportsOf k s true ⟨s, .claim b high w⟩ r ignored, rep.own = none)
    ∧ (let frame : TieFrame := ⟨s, .claim (outletByte o) (priorityField p) 0⟩
      let ignored := accountChange c d r frame
      ignored = { replica := admissionPass c r, foreign := true, outcome := some (.denied .oversize) }
        ∧ ∃ rep ∈ reportsOf k s true frame r ignored, rep.outlet = o ∧ rep.own = some .claim
          ∧ rep.outcome = some (.denied .oversize)
          ∧ (admissionPass c r = r → rep.standing = standingOf k r s o ∧ rep.cause = .none))
    ∧ (w ≠ 0 →
      let change := accountChange c d r ⟨s, .claim (outletByte o) (priorityField p) w⟩
      let e : Entry := ⟨s, o, p, w⟩
      change.outcome = some (claimOutcome c r e)
        ∧ change.foreign = (claimOutcome c r e == .denied .notMember)
        ∧ (claimOutcome c r e = .admitted → ∃ r', change.replica = admissionPass c r' ∧ r'.start = r.start ++ [e]
            ∧ r'.wait = r.wait ∧ r'.members = r.members ∧ r'.shedLevel = r.shedLevel
            ∧ (binOf r' s p).val = (binOf r s p).val + w.val
            ∧ ∀ (n : StationNum) (q : Prio), (n, q) ≠ (s, p) → binOf r' n q = binOf r n q)
        ∧ (claimOutcome c r e = .waiting → change.replica = admissionPass c { r with wait := r.wait ++ [e] })
        ∧ (∀ cause, claimOutcome c r e = .denied cause → change.replica = admissionPass c r))

/-- STARTED removes the pair's entry from the start queue and nothing else (R35); CANCEL removes the pair's entry, and
its units if it stood in the start queue (R33); RELEASE subtracts its weight from its bin with the floor at 0 and
removes the start-queue entry (R36); FOREIGN_FRAME where the floor was reached (R38). One of them with an outlet above
7, and a RELEASE with a priority above 7 or a weight of 0, is ignored with FOREIGN_FRAME: nothing changes but by the
pass; for a weight of 0 the sender's own report has cause NONE, for the others no own report is given (R24, R43). -/
def Obligations.ReleasingFramesChangeAccount : Prop :=
  ∀ (c : SharedSettings) (d : Option Half) (r : Replica) (s : StationNum) (o : OutletNum) (k : Nat),
    let ignored (body : FrameBody) : Prop :=
      accountChange c d r ⟨s, body⟩ = { replica := admissionPass c r, foreign := true }
    let unreported (body : FrameBody) : Prop :=
      ∀ rep ∈ reportsOf k s true ⟨s, body⟩ r (accountChange c d r ⟨s, body⟩), rep.own = none
    let others (l : List Entry) : List Entry := l.filter fun e => !(e.station == s && e.outlet == o)
    let reduced (r' : Replica) (p : Prio) (w : Units) : Prop :=
      (binOf r' s p).val = (binOf r s p).val - w.val
        ∧ (∀ (n : StationNum) (q : Prio), (n, q) ≠ (s, p) → binOf r' n q = binOf r n q)
        ∧ r'.wait = r.wait ∧ r'.start = others r.start ∧ r'.members = r.members ∧ r'.shedLevel = r.shedLevel
    (∀ (b : Byte) (high : Fin 16) (w : Units),
      (8 ≤ b.toNat → ignored (.started b) ∧ unreported (.started b) ∧ ignored (.cancel b) ∧ unreported (.cancel b))
      ∧ (8 ≤ b.toNat ∨ 8 ≤ high.val → ignored (.release b high w) ∧ unreported (.release b high w)))
      ∧ (∀ p : Prio,
        let body : FrameBody := .release (outletByte o) (priorityField p) 0
        ignored body ∧ ∃ rep ∈ reportsOf k s true ⟨s, body⟩ r (accountChange c d r ⟨s, body⟩), rep.outlet = o
          ∧ rep.own = some .release ∧ (admissionPass c r = r → rep.standing = standingOf k r s o ∧ rep.cause = .none))
      ∧ accountChange c d r ⟨s, .started (outletByte o)⟩ = { replica := admissionPass c { r with start := others r.start } }
      ∧ ((∃ e ∈ r.wait, e.station = s ∧ e.outlet = o) → accountChange c d r ⟨s, .cancel (outletByte o)⟩
          = { replica := admissionPass c { r with wait := others r.wait } })
      ∧ ((∀ e ∈ r.wait, ¬(e.station = s ∧ e.outlet = o)) → ∀ e, r.start.find? (isPair s o) = some e →
          ∃ r', reduced r' e.priority e.weight ∧ accountChange c d r ⟨s, .cancel (outletByte o)⟩
            = { replica := admissionPass c r', foreign := decide ((binOf r s e.priority).val < e.weight.val) })
      ∧ (∀ (p : Prio) (w : Units), w ≠ 0 →
          ∃ r', reduced r' p w ∧ accountChange c d r ⟨s, .release (outletByte o) (priorityField p) w⟩
            = { replica := admissionPass c r', foreign := decide ((binOf r s p).val < w.val) })

/-- A CANCEL that finds no entry of its pair leaves the account unchanged but for the pass, and records no fault; at its
sender it is reported all the same, with cause NONE where the standing is unchanged (R34, R43). -/
def Obligations.CancelWithoutEntry : Prop :=
  ∀ (c : SharedSettings) (d : Option Half) (r : Replica) (s : StationNum) (o : OutletNum) (k : Nat),
    (∀ e ∈ r.wait ++ r.start, ¬(e.station = s ∧ e.outlet = o)) →
    let change := accountChange c d r ⟨s, .cancel (outletByte o)⟩
    change.replica = admissionPass c r ∧ change.foreign = false ∧ change.outcome = none
      ∧ ∃ rep ∈ reportsOf k s true ⟨s, .cancel (outletByte o)⟩ r change,
          rep.outlet = o ∧ rep.own = some .cancel ∧ (rep.standing = .absent → rep.cause = .none)

/-- SHED raises the shed level to the greater of it and L, zeroes every bin below and removes every entry below, then
the pass runs; a level outside 1 to 8 is ignored with FOREIGN_FRAME (R147). A member's RESTORE sets the level to 0; a
non-member's is ignored with FOREIGN_FRAME (R152). An equal-digest JOIN makes its sender a member with a zero row and no
entries; a member's LEAVE, and FORGET of a member, take the station out with its row and entries; with a different
digest, or for a non-member, nothing changes (R55, R77, R79); a FORGET with a target above 15 is ignored with
FOREIGN_FRAME (R202). -/
def Obligations.ShedAndMembershipFramesChangeAccount : Prop :=
  ∀ (c : SharedSettings) (d : Option Half) (r : Replica) (n m : StationNum) (h : Half) (b : Byte),
    let without (r' : Replica) (x : StationNum) : Prop :=
      (∀ p : Prio, binOf r' x p = 0) ∧ (∀ (y : StationNum) (p : Prio), y ≠ x → binOf r' y p = binOf r y p)
        ∧ r'.wait = r.wait.filter (fun e => e.station != x) ∧ r'.start = r.start.filter (fun e => e.station != x)
        ∧ r'.shedLevel = r.shedLevel ∧ (∀ y : StationNum, y ≠ x → inSet r'.members y = inSet r.members y)
    (1 ≤ b.toNat ∧ b.toNat ≤ 8 → ∃ r', accountChange c d r ⟨n, .shed b⟩ = { replica := admissionPass c r' }
        ∧ r'.shedLevel.val = max r.shedLevel.val b.toNat ∧ r'.members = r.members
        ∧ (∀ (m : StationNum) (p : Prio), binOf r' m p = if p.val < r'.shedLevel.val then 0 else binOf r m p)
        ∧ r'.wait = r.wait.filter (fun e => r'.shedLevel.val ≤ e.priority.val)
        ∧ r'.start = r.start.filter (fun e => r'.shedLevel.val ≤ e.priority.val))
      ∧ (¬(1 ≤ b.toNat ∧ b.toNat ≤ 8) → accountChange c d r ⟨n, .shed b⟩ = { replica := r, foreign := true })
      ∧ (inSet r.members n = true → accountChange c d r ⟨n, .restore⟩
          = { replica := admissionPass c { r with shedLevel := 0 } })
      ∧ (inSet r.members n = false → accountChange c d r ⟨n, .restore⟩ = { replica := r, foreign := true })
      ∧ (d = some h → ∃ r', accountChange c d r ⟨n, .join h⟩ = { replica := admissionPass c r' } ∧ without r' n
        ∧ inSet r'.members n = true)
      ∧ (d ≠ some h → accountChange c d r ⟨n, .join h⟩ = { replica := r })
      ∧ (inSet r.members n = true → ∃ r', accountChange c d r ⟨n, .leave⟩ = { replica := admissionPass c r' }
          ∧ without r' n ∧ inSet r'.members n = false)
      ∧ (inSet r.members n = false → accountChange c d r ⟨n, .leave⟩ = { replica := r })
      ∧ (inSet r.members m = true → ∃ r', accountChange c d r ⟨n, .forget (stationByte m)⟩
          = { replica := admissionPass c r' } ∧ without r' m ∧ inSet r'.members m = false)
      ∧ (inSet r.members m = false → accountChange c d r ⟨n, .forget (stationByte m)⟩ = { replica := r })
      ∧ (16 ≤ b.toNat → accountChange c d r ⟨n, .forget b⟩ = { replica := r, foreign := true })

/-- An equal-digest RESYNC: the sender is a member, its former entries are gone, its bins below the shed level are 0
(steps 1 to 3 of R69). Of the declared entries without the faults of R202 (log entry 33), those at or above the shed
level join the tail of the start queue in the order carried while it holds fewer than 32; nothing is added to the bins,
and the weights of those that found no room are taken out of theirs with the floor at 0 (step 4 of R69, R38).
FOREIGN_FRAME for a faulty entry and where the floor was reached; another digest changes nothing, and that it records no
FOREIGN_FRAME for a faulty entry either is the model's reading of R202, log entry 33. -/
def Obligations.ResyncChangesAccount : Prop :=
  ∀ (c : SharedSettings) (d : Option Half) (r : Replica) (n : StationNum) (content : ResyncContent),
    (d ≠ some content.digest → accountChange c d r ⟨n, .resync content⟩ = { replica := r })
    ∧ (d = some content.digest →
      let sound := soundEntries n content.entries
      let due := (sound.filter fun w => r.shedLevel.val ≤ w.priority.val).map wireToEntry
      let others := r.start.filter fun e => e.station != n
      let left := due.drop (32 - others.length)
      ∃ r' foreign, accountChange c d r ⟨n, .resync content⟩ = { replica := admissionPass c r', foreign := foreign }
        ∧ inSet r'.members n = true ∧ (∀ y : StationNum, y ≠ n → inSet r'.members y = inSet r.members y)
        ∧ r'.shedLevel = r.shedLevel ∧ r'.wait = r.wait.filter (fun e => e.station != n)
        ∧ r'.start = others ++ due.take (32 - others.length)
        ∧ (∀ (y : StationNum) (p : Prio), y ≠ n → binOf r' y p = binOf r y p)
        ∧ (∀ p : Prio, p.val < r.shedLevel.val → binOf r' n p = 0)
        ∧ (∀ p : Prio, r.shedLevel.val ≤ p.val → (binOf r' n p).val = content.bins[p].val - unitsAt left n p)
        ∧ (foreign = true ↔ sound.length < content.entries.length ∨ ∃ p : Prio, content.bins[p].val < unitsAt left n p
            ∧ r.shedLevel.val ≤ p.val))

/-- The admission pass: entries of the wait list join the tail of the start queue, their units enter their bins, nothing
else changes (R7, R18). It examines the oldest entry first: one that fits is admitted and the pass goes on with the
account so changed; one that does not ends the pass in STRICT order, and in FIT order keeps its place while the rest is
examined (R18, R19). What is left does not fit: in STRICT order its head, in FIT order no entry. A second pass run at
once admits nothing; no admission raises the total above C, and in overcommit nothing is admitted (R17 to R19). -/
def Obligations.PassOrder : Prop :=
  ∀ (c : SharedSettings) (r : Replica),
    let p := admissionPass c r
    (∃ admitted, p.start = r.start ++ admitted ∧ admitted.Sublist r.wait ∧ p.wait.Sublist r.wait
        ∧ (admitted ++ p.wait).Perm r.wait ∧ p.members = r.members ∧ p.shedLevel = r.shedLevel
        ∧ (∀ (n : StationNum) (q : Prio), (binOf p n q).val = (binOf r n q).val + unitsAt admitted n q)
        ∧ (c.order = .strict → admitted = r.wait.take admitted.length ∧ p.wait = r.wait.drop admitted.length))
      ∧ (r.wait = [] → p = r)
      ∧ (∀ e rest, r.wait = e :: rest →
          (fits c r e = true → p = admissionPass c (admitEntry { r with wait := rest } e))
          ∧ (fits c r e = false → c.order = .strict → p = r)
          ∧ (fits c r e = false → c.order = .fit → p = { admissionPass c { r with wait := rest } with
              wait := e :: (admissionPass c { r with wait := rest }).wait }))
      ∧ (c.order = .strict → ∀ e ∈ p.wait.head?, fits c p e = false)
      ∧ (c.order = .fit → ∀ e ∈ p.wait, fits c p e = false)
      ∧ admissionPass c p = p
      ∧ (accountTotal r ≤ c.capacity.val → accountTotal p ≤ c.capacity.val)
      ∧ (c.capacity.val < accountTotal r → p = r)

/-- The acceptance of a CLAIM, CANCEL, STARTED or RELEASE, this station's or another's, reports to every own outlet
whose standing changed or whose frame it is (R40). The outlet records the standing (R110); QUEUED, WAITING, ADMITTED and
SOFT outlets enter the states of the tables of R122, R123 and R126, a started outlet through the changeover gap or onto
the weak path (R114, R125), one that loses its slot with every switch open; CANCELLING and STOPPING outlets enter OFF
once nothing is outstanding (R124, R132), and an outlet that turned away from the CLAIM answers an entry with CANCEL
(R124). No other outlet changes. -/
def Obligations.OutletsActOnReports : Prop :=
  ∀ (c : Instr) (f : TieFrame) (s : State), frameOf c = some f → isOutletFrame f.body = true → Steady s →
    delivers s = true → following s = true → SentOrHeard s f →
    let change := accountChange s.settings.shared s.settings.digest s.replica f
    let synced : Bool := s.membership.station == .synced
    let own (o : OutletNum) : Option OutletFrame :=
      if s.tie.tx = none then none
      else match ownOutletFrame s.number f with | some (o', k) => if o' = o then some k else none | none => none
    ∃ t, exec c s = .next t ∧ t.replica = change.replica ∧ t.membership.station = s.membership.station
      ∧ ∀ o : OutletNum,
        let x := s.outlets[o]
        let y := t.outlets[o]
        let new := standingOf (slotCount s) change.replica s.number o
        let outcome := if own o = some .claim then change.outcome else none
        let reported : Bool := standingOf (slotCount s) s.replica s.number o != new || (own o).isSome
        let quiet : Bool := !s.pins.trip.getLsbD o.val && !s.pins.settle.getLsbD o.val
        y.standing = new
        ∧ (reported = false → y.state = x.state ∧ y.path = x.path ∧ y.heldAs = x.heldAs)
        ∧ (reported = true →
          (quiet = true → x.state ∉ [.cancelling, .stopping] → y.state = stateAfterReport synced outcome new x.state)
          ∧ (quiet = true → x.state ≠ .soft → y.state = .soft →
              (x.path = .reserve → y.path = .allOpen ∧ y.gap = some 2)
              ∧ (x.path = .allOpen → y.path = .weak ∧ y.settle = some x.config.settleTimeout.val))
          ∧ (quiet = true → x.state ∈ [.queued, .waiting, .admitted] → x.path = .reserve →
              y.state ∈ [.queued, .waiting, .admitted, .shed] → y.path = .reserve)
          ∧ (x.state = .soft → y.state ≠ .soft → y.path = .allOpen ∧ y.gap = none ∧ y.settle = none)
          ∧ (quiet = true → x.state ≠ .queued → y.state = .queued → placeTaken (.outlet o) t ≤ 1 →
              isPosted (isClaimOf o) t = true)
          ∧ (x.state = .cancelling →
              y.state = if cancelOutstanding o t || y.claimOutstanding then .cancelling else .off)
          ∧ (x.state = .stopping →
              y.state = if y.path == .weak || releaseOutstanding o t then .stopping else .off)
          ∧ (x.state ∈ [.cancelling, .fault] → own o = some .claim → y.claimOutstanding = false
              ∧ (change.outcome ∈ [some .admitted, some .waiting] → cancelOutstanding o t = true)))

/-- The outlets and the shed unit at an accepted SHED and at a member's RESTORE, this station's frame or another's.
SHED of level 1 to 8: the count becomes what the agreed level leaves of the local level, and a remainder is posted as
a further SHED after this station's own frame, or starts the shed-frame wait after another's unless an own SHED of a
higher level stays posted (R108, R148); an outlet below that level is SHED from ON with its bleed begun, from SOFT
with every switch open, from DROPPED, WAITING and ADMITTED, its frames withdrawn, while STOPPING and CANCELLING go to
OFF when nothing else is awaited (R108, R148); a DROPPED outlet not covered releases its units by its own frame
(R149); the others follow their reports (R147). RESTORE: the shed level and the count are 0, posted SHED and RESTORE
are withdrawn, DROPPED outlets release their units, and those in SHED claim again where they have auto-reclaim (R152,
R153). A RESTORE of a non-member changes no outlet. -/
def Obligations.ShedAndRestoreActOnOutlets : Prop :=
  ∀ (n : StationNum) (b : Byte) (s : State), Steady s → delivers s = true → following s = true →
    let quiet (o : OutletNum) : Bool := !s.pins.trip.getLsbD o.val && !s.pins.settle.getLsbD o.val
    let synced : Bool := s.membership.station == .synced
    let reports (t : State) (o : OutletNum) : Prop :=
      let new := standingOf (slotCount s) t.replica s.number o
      t.outlets[o].standing = new
        ∧ (standingOf (slotCount s) s.replica s.number o = new → t.outlets[o].state = s.outlets[o].state
            ∧ t.outlets[o].path = s.outlets[o].path)
        ∧ (quiet o = true → s.outlets[o].state ∈ [.queued, .waiting, .admitted, .soft] →
            standingOf (slotCount s) s.replica s.number o ≠ new →
            t.outlets[o].state = stateAfterReport synced none new s.outlets[o].state)
    let released (t : State) (o : OutletNum) : Prop :=
      t.outlets[o].heldAs = none ∧ (s.outlets[o].heldAs = some .on → releaseOutstanding o t = true)
        ∧ (s.outlets[o].heldAs = some .soft → cancelOutstanding o t = true)
    (1 ≤ b.toNat → b.toNat ≤ 8 → SentOrHeard s ⟨n, .shed b⟩ →
      let agreed := max s.replica.shedLevel.val b.toNat
      let higher : Bool := s.tie.queue.any fun q => match q.item with | .shed l => decide (b.toNat < l.val) | _ => false
      ∃ t, exec (.acceptShed n b) s = .next t ∧ t.replica.shedLevel.val = agreed
        ∧ t.shed.localCount.val = localLevel s - agreed ∧ t.membership.station = s.membership.station
        ∧ (localLevel s ≤ agreed → t.shed = { s.shed with localCount := 0 })
        ∧ (agreed < localLevel s → s.tie.tx ≠ none →
            t.shed = { s.shed with localCount := t.shed.localCount }
            ∧ isPosted (fun i => i == .shed (toLevel (localLevel s))) t = true)
        ∧ (agreed < localLevel s → s.tie.tx = none →
            t.shed = { s.shed with
              localCount := t.shed.localCount
              frameWait := if higher || s.shed.frameWait.isSome then s.shed.frameWait else some 5 })
        ∧ ∀ o : OutletNum,
          let x := s.outlets[o]
          let y := t.outlets[o]
          (x.config.priority.val < agreed → ShedByTable s t o)
          ∧ (agreed ≤ x.config.priority.val → x.state = .dropped →
              y.state = .shed ∧ y.path = x.path ∧ y.bleed = x.bleed ∧ released t o)
          ∧ (agreed ≤ x.config.priority.val → x.state ≠ .dropped → reports t o))
    ∧ (inSet s.replica.members n = true → SentOrHeard s ⟨n, .restore⟩ →
      ∃ t, exec (.acceptRestore n) s = .next t ∧ t.replica.shedLevel = 0 ∧ t.shed.localCount = 0 ∧ t.shed.frameWait = none
        ∧ t.shed.postPending = false ∧ isPosted (fun i => isShed i || isRestore i) t = false
        ∧ t.membership.station = s.membership.station
        ∧ ∀ o : OutletNum,
          let x := s.outlets[o]
          let y := t.outlets[o]
          (quiet o = true → x.state ∈ [.dropped, .shed] → y.state = if x.config.autoReclaim then .queued else .shed)
          ∧ (x.state = .dropped → released t o)
          ∧ (x.state ∈ [.dropped, .shed] → x.config.autoReclaim = true → quiet o = true → placeTaken (.outlet o) t ≤ 1 →
              isPosted (isClaimOf o) t = true)
          ∧ (x.state ∈ [.dropped, .shed] → x.config.autoReclaim = false → y.path = x.path ∧ y.bleed = x.bleed)
          ∧ (x.state ∈ [.dropped, .shed] → x.config.autoReclaim = true → x.path = .weak → y.path = .allOpen ∧ y.bleed = none)
          ∧ (x.state ∉ [.dropped, .shed] → reports t o))
    ∧ (inSet s.replica.members n = false → SentOrHeard s ⟨n, .restore⟩ →
      ∃ t, exec (.acceptRestore n) s = .next t ∧ t.outlets = s.outlets ∧ t.replica = s.replica ∧ t.shed = s.shed
        ∧ namesFault t.report.status .foreignFrame = true)

/-- At the acceptance of its own RESYNC a RESYNCING station starts the snapshot wait (R71). A station in MUTE, whose
attempt it was, enters RESYNCING with cause RECOVERED, its isolation timer stopped, the attempt count 1 and the founding
mark clear, and goes on as one that was RESYNCING (R73). Its RELEASE, CANCEL and STARTED posted before that frame are
withdrawn, and each own outlet is reconciled with the account as the acceptance left it, by the table of R70: below the
shed level ADMITTED, WAITING, ON and DROPPED go to SHED; elsewhere an ADMITTED outlet that was not placed and a WAITING
one claim again; a STOPPING outlet whose RELEASE was withdrawn posts it again, or awaits its bleed alone below the
level; CANCELLING goes to OFF, and a CLAIM turned away from is withdrawn (R109, R124). -/
def Obligations.OwnResyncReconciles : Prop :=
  ∀ (content : ResyncContent) (x : Transmission) (s : State), Steady s → delivers s = true →
    s.membership.station ∈ [.resyncing, .mute] → s.tie.tx = some x → x.frame = ⟨s.number, .resync content⟩ →
    content.wellFormed = true → s.settings.digest = some content.digest →
    let r := (accountChange s.settings.shared s.settings.digest s.replica x.frame).replica
    ∃ t, exec (.acceptResync s.number content) s = .next t ∧ t.replica = r ∧ t.membership.station = .resyncing
      ∧ t.membership.awaiting = true ∧ t.membership.snapshotWait = some s.settings.shared.wait.val
      ∧ (s.membership.station = .mute → t.membership.attempt = 1 ∧ t.membership.foundingMark = false
          ∧ t.membership.isolationTimer = none ∧ t.membership.muteTimer = none
          ∧ (s.report.events.length < 32 → s.settings.station.enable.getLsbD 1 = true →
              t.report.events[s.report.events.length]? = some (.station .resyncing .recovered)))
      ∧ (s.membership.station = .resyncing → t.membership.attempt = s.membership.attempt
          ∧ (s.membership.resyncWish = .none → t.membership.foundingMark = s.membership.foundingMark))
      ∧ (∀ q ∈ t.tie.queue, isReleasing (fun _ => true) q.item = true → x.seq < q.seq)
      ∧ ∀ o : OutletNum,
        let u := s.outlets[o]
        let y := t.outlets[o]
        let below : Bool := u.config.priority.val < s.replica.shedLevel.val
        let placed : Bool := r.start.any fun e => e.station == s.number && e.outlet == o
        let withdrawn : Bool := u.due == some .release || s.tie.queue.any fun q => isReleaseOf o q.item && q.seq < x.seq
        let quiet : Bool := !s.pins.trip.getLsbD o.val
        y.standing = standingOf (slotCount s) r s.number o
        ∧ (quiet = true → u.state = .admitted → y.state = if below then .shed else if placed then .admitted else .queued)
        ∧ (quiet = true → u.state = .waiting → y.state = if below then .shed else .queued)
        ∧ (quiet = true → u.state ∈ [.admitted, .waiting] → u.path = .reserve → y.path = .reserve)
        ∧ (u.state ∈ [.admitted, .waiting] → y.state = .queued → placeTaken (.outlet o) t ≤ 1 →
            isPosted (isClaimOf o) t = true)
        ∧ (u.state = .on → y.state = (if below then .shed else .on)
            ∧ (below = true → y.path = .weak ∧ y.bleed = some u.config.bleedTime.val))
        ∧ (u.state = .dropped → y.state = (if below then .shed else .dropped) ∧ y.path = u.path
            ∧ y.heldAs = (if below then none else u.heldAs))
        ∧ (u.state = .stopping → y.path = u.path
            ∧ (withdrawn = false → y.state = .stopping)
            ∧ (withdrawn = true → below = false → y.state = .stopping ∧ releaseOutstanding o t = true)
            ∧ (withdrawn = true → below = true →
                y.state = if u.path == .weak || releaseOutstanding o t then .stopping else .off))
        ∧ (u.state = .cancelling → y.state = .off)
        ∧ (u.state ∈ [.off, .queued, .soft, .shed, .fault] → y.state = u.state ∧ y.path = u.path)
        ∧ (u.claimOutstanding = true → y.claimOutstanding = false ∧ isPosted (isClaimOf o) t = false)

/-- A SYNCED station takes on a duty at a JOIN or RESYNC of another station, SNAPSHOT for its own digest and REFUSE for
another, in place of the duty that stood (R55, R69), and clears it at a LEAVE of that station, a FORGET, SNAPSHOT or
REFUSE that names it, its own frame or another's; a posted frame for that station that is not of the duty left is
withdrawn (R59). While duties stand, the snapshot place holds a frame; a place that was free takes that of the one duty
(R59). -/
def Obligations.DutiesTakenAndCleared : Prop :=
  ∀ (n m : StationNum) (d : Half) (resync : ResyncContent) (snapshot : SnapshotContent) (s : State), Steady s →
    delivers s = true → s.membership.station = .synced →
    let dutyOf (t : State) (k : StationNum) : Duty := t.membership.peers[k].duty
    let taken (t : State) (digest : Half) : Prop := t.membership.station = .synced
      ∧ dutyOf t n = (if s.settings.digest = some digest then .snapshot else .refuse)
      ∧ (∀ k : StationNum, k ≠ n → dutyOf t k = dutyOf s k)
      ∧ placeFree .snapshot t = false
      ∧ (∀ q ∈ t.tie.queue, isDutyFrame n q.item = true →
          ((∃ h, q.item = .refuse n h) ↔ s.settings.digest ≠ some digest))
      ∧ (placeFree .snapshot s = true → isPosted (isDutyFrame n) t = true)
    let cleared (t : State) (k : StationNum) : Prop := dutyOf t k = .none ∧ isPosted (isDutyFrame k) t = false
      ∧ (t.membership.station = .synced → (∀ j : StationNum, j ≠ k → dutyOf t j = dutyOf s j)
          ∧ ((∃ j : StationNum, dutyOf t j ≠ .none) → placeFree .snapshot t = false))
    (n ≠ s.number → s.tie.tx = none →
      (∃ t, exec (.acceptJoin n d) s = .next t ∧ taken t d)
      ∧ (resync.wellFormed = true → ∃ t, exec (.acceptResync n resync) s = .next t ∧ taken t resync.digest)
      ∧ (∃ t, exec (.acceptLeave n) s = .next t ∧ t.membership.station = .synced ∧ cleared t n))
    ∧ (SentOrHeard s ⟨n, .forget (stationByte m)⟩ → m ≠ s.number →
        ∃ t, exec (.acceptForget n (stationByte m)) s = .next t ∧ t.membership.station = .synced ∧ cleared t m)
    ∧ (SentOrHeard s ⟨n, .refuse (stationByte m) d⟩ →
        ∃ t, exec (.acceptRefuse n (stationByte m) d) s = .next t ∧ t.membership.station = .synced ∧ cleared t m)
    ∧ (SentOrHeard s ⟨n, .snapshot (stationByte m) snapshot⟩ → snapshot.wellFormed = true →
        ∃ t, exec (.acceptSnapshot n (stationByte m) snapshot) s = .next t ∧ cleared t m)

/-- A SNAPSHOT for this station while it awaits one, of its own digest, naming it a member and sound, is loaded with
its pass, and the station is SYNCED (R21, R62): the local count becomes what the loaded level leaves of the local level
(R142, R148), a change of the level is recorded (R154), outlets below a raised level do as at an accepted SHED (R148),
the others their reports (R62, R126), and deferred starts begin (R135); one that does not name it a member, or is not
sound, which records DIVERGENCE, sets the founding mark and is not loaded (R62, R56); that it does so in RESYNCING too
is log entry 32 (R71). A SNAPSHOT that ends in the extension of an expired wait is loaded or refuses the station all
the same, and at one that is not loaded the expiry comes at once, with the mark set (R57; log entry 18). After the load
the station awaits nothing, in RESYNCING too by log entry 19. It is refused by a REFUSE that names it, which stores the
digest, by a SNAPSHOT of another digest that it awaits, or in JOINING by a JOIN of another digest (R56): REFUSED with
JOIN_REFUSED recorded, outlets OFF and open, queue and replica emptied (R62, R63, R64, R136). If SET_LOCAL has written
DIVERGENCE fatal, the SNAPSHOT that is not sound isolates the station; JOIN_REFUSED written fatal leaves it REFUSED,
since REFUSED is none of the states that a fatal fault isolates (R75, R188). A SNAPSHOT for this station that it does
not await is in `JoiningStationHears`. -/
def Obligations.JoinerIsLoadedOrRefused : Prop :=
  ∀ (s : State) (sender : StationNum) (d : Half) (content : SnapshotContent), Receiving s →
    s.membership.station ∈ [.joining, .resyncing] → sender ≠ s.number →
    let awaited : Prop := s.membership.awaiting = true ∧ content.wellFormed = true
    let sound : Bool := inSet content.members s.number && snapshotSound content
    let refusal (t : State) : Prop := t.membership.station = .refused ∧ t.membership.attempt = 0 ∧ t.replica = .empty
      ∧ t.check = checkOf .empty ∧ t.tie.queue = [] ∧ namesFault t.report.status .joinRefused = true ∧ allSwitchesOpen t
      ∧ (∀ o : OutletNum, t.outlets[o].state = .off) ∧ t.settings = s.settings
    (DefaultSeverity s → s.report.escalate = false → awaited → s.settings.digest = some content.digest → sound = true →
      ∃ t, exec (.acceptSnapshot sender (stationByte s.number) content) s = .next t
        ∧ t.replica = admissionPass s.settings.shared (replicaOf content) ∧ t.check = checkOf t.replica
        ∧ t.membership.station = .synced ∧ t.membership.awaiting = false ∧ t.membership.snapshotWait = none
        ∧ t.membership.presenceTimer = some s.settings.shared.presence.val ∧ t.settings = s.settings
        ∧ (Steady s → (∀ o : OutletNum, EntersSynced s t o)
            ∧ t.shed = { s.shed with localCount := t.shed.localCount }
            ∧ t.shed.localCount.val = localLevel s - t.replica.shedLevel.val
            ∧ (t.replica.shedLevel ≠ s.replica.shedLevel → s.settings.station.enable.getLsbD 3 = true →
                s.report.events.length < 31 → EventRecord.shedLevel t.replica.shedLevel ∈ t.report.events)))
    ∧ (DefaultSeverity s → s.report.escalate = false → awaited → s.settings.digest = some content.digest → sound = false →
      ∃ t, exec (.acceptSnapshot sender (stationByte s.number) content) s = .next t
        ∧ (inSet content.members s.number = true → namesFault t.report.status .divergence = true)
        ∧ (s.membership.waitExpired = false → s.membership.resyncWish = .none → t.membership.foundingMark = true
            ∧ t.membership.station = s.membership.station ∧ t.replica = s.replica ∧ t.membership.awaiting = true)
        ∧ (s.membership.waitExpired = true → WaitEnds true s.membership.remembered s.replica s t))
    ∧ (WrittenFatal .divergence s → awaited → s.settings.digest = some content.digest → sound = false →
      inSet content.members s.number = true → s.membership.waitExpired = false →
      ∃ t, exec (.acceptSnapshot sender (stationByte s.number) content) s = .next t ∧ Isolated s.replica s t
        ∧ namesFault t.report.status .divergence = true)
    ∧ (∃ t, exec (.acceptRefuse sender (stationByte s.number) d) s = .next t ∧ refusal t
        ∧ t.membership.peers[sender].refusal = some d)
    ∧ (awaited → s.settings.digest ≠ some content.digest →
        ∃ t, exec (.acceptSnapshot sender (stationByte s.number) content) s = .next t ∧ refusal t)
    ∧ (s.membership.station = .joining → s.settings.digest ≠ some d →
        ∃ t, exec (.acceptJoin sender d) s = .next t ∧ refusal t)

/-- A station in JOINING or RESYNCING and a frame that neither refuses it nor is a SNAPSHOT for it that it awaits. Its
own JOIN starts the wait in JOINING (R56). An equal-digest JOIN restarts the wait where it runs, and in JOINING adds
its sender to the remembered joiners; every other frame sets the founding mark (R56, R71), a SNAPSHOT for this station
while it awaits none among them, which is not loaded (R56, R62, R71); that in RESYNCING these are all but the own
RESYNC, the station's own frames and a RESTORE of a non-member among them, and not a FORGET with a target above 15, is
log entry 32. A RESYNC waited for that is posted at the end of the treatment starts an attempt with the mark clear,
except the first (R67, R71). Where the wait has expired while the frame was received, the expiry comes after that
treatment: the station founds, tries again or gives up, at the mark and the joiners as the frame left them (R57; log
entry 18); that in RESYNCING the awaiting of a snapshot ends with it too is log entry 19. -/
def Obligations.JoiningStationHears : Prop :=
  ∀ (c : Instr) (f : TieFrame) (s : State) (h : Half), frameOf c = some f → carriable f.body = true → s.resetting = none →
    delivers s = true → Settled s → DefaultSeverity s → answersJoin s f.body = false →
    let m := s.membership
    let equal : Bool := isEqualJoin s f.body
    let hears (joiners : Half) (r : Replica) (t : State) : Prop :=
      (m.waitExpired = false → t.membership.station = m.station ∧ t.replica = r ∧ t.membership.remembered = joiners
        ∧ t.membership.attempt = m.attempt ∧ t.membership.awaiting = (m.awaiting || equal && m.snapshotWait.isSome)
        ∧ t.membership.snapshotWait
            = (if equal && m.snapshotWait.isSome then some s.settings.shared.wait.val else m.snapshotWait)
        ∧ t.membership.foundingMark
            = (markAfter s f.body && !(m.resyncWish == .again && t.membership.resyncWish == .none)))
      ∧ (m.waitExpired = true → WaitEnds (markAfter s f.body) joiners r s t)
    (m.station = .joining → m.waitExpired = false → f = ⟨s.number, .join h⟩ → (∃ x, s.tie.tx = some x ∧ x.frame = f) →
      ∃ t, exec c s = .next t ∧ t.membership.awaiting = true
        ∧ t.membership.snapshotWait = some s.settings.shared.wait.val ∧ t.membership.station = .joining
        ∧ t.membership.foundingMark = m.foundingMark ∧ t.membership.remembered = m.remembered ∧ t.replica = s.replica)
    ∧ (m.station = .joining → s.tie.tx = none → f.sender ≠ s.number → (∀ d, f.body = .join d → equal = true) →
      ∃ joiners : Half, (∀ n : StationNum, inSet joiners n = (inSet m.remembered n || equal && n == f.sender))
        ∧ ∃ t, exec c s = .next t ∧ hears joiners s.replica t)
    ∧ (m.station = .resyncing → SentOrHeard s f → f.body ≠ .forget (stationByte s.number) →
      (s.tie.tx ≠ none → ∀ content, f.body ≠ .resync content) →
      ∃ t, exec c s = .next t
        ∧ hears m.remembered (accountChange s.settings.shared s.settings.digest s.replica f).replica t)

/-- A SYNCED station that accepts a PRESENCE, or a SNAPSHOT, which is never for it to load, with another state check
than its own before the acceptance records DIVERGENCE, and enters RESYNCING with attempt 1 if its number is greater than
the sender's; with an equal check it stays (R61, R65, R66). The sender's silence count is 0; a sender that was LOST is
PRESENT, and a posted FORGET of it is withdrawn (R52, R78). At a REFUSE that does not name it a SYNCED station records
DIVERGENCE if the digest is not its own, and stays; that a LEAVING one does so too is log entry 40 (R63, R76). A REFUSE
for this station is recorded as JOIN_REFUSED there (R63). A DIVERGENCE or JOIN_REFUSED that SET_LOCAL has written fatal
isolates the station (R75, R188). -/
def Obligations.PresenceComparesChecks : Prop :=
  ∀ (s : State) (n : StationNum) (h : Half), Receiving s → Settled s → n ≠ s.number →
    s.membership.waitExpired = false →
    let heardFrom (t : State) : Prop := t.replica = s.replica ∧ t.settings = s.settings ∧ t.membership.peers[n].silence = 0
      ∧ (s.membership.peers[n].presence = .lost → t.membership.peers[n].presence = .present
          ∧ isPosted (fun i => i == .forget n) t = false)
    let diverges (t : State) (d : Bool) : Prop :=
      namesFault t.report.status .divergence = (namesFault s.report.status .divergence || d)
    let compares (t : State) (check : Half) : Prop := heardFrom t ∧ diverges t (check != s.check)
      ∧ (check = s.check → t.membership.station = .synced)
      ∧ (check ≠ s.check → n.val < s.number.val → t.membership.station = .resyncing ∧ t.membership.attempt = 1)
      ∧ (check ≠ s.check → s.number.val < n.val → t.membership.station = .synced)
    (DefaultSeverity s → s.membership.station = .synced →
      (∃ t, exec (.acceptPresence n h) s = .next t ∧ compares t h)
      ∧ ∀ (target : Byte) (content : SnapshotContent), content.wellFormed = true →
          ∃ t, exec (.acceptSnapshot n target content) s = .next t ∧ compares t content.check)
    ∧ (WrittenFatal .divergence s →
      let isolates (r : Result) : Prop :=
        ∃ t, r = .next t ∧ Isolated s.replica s t ∧ namesFault t.report.status .divergence = true
      (s.membership.station = .synced → (h ≠ s.check → isolates (exec (.acceptPresence n h) s))
        ∧ ∀ (target : Byte) (content : SnapshotContent), content.wellFormed = true → content.check ≠ s.check →
            isolates (exec (.acceptSnapshot n target content) s))
      ∧ (s.membership.station ∈ [.synced, .leaving] → s.settings.digest ≠ some h → ∀ target : Byte,
          stationOf target ≠ some s.number → isolates (exec (.acceptRefuse n target h) s)))
    ∧ (WrittenFatal .joinRefused s → s.membership.station ∈ [.synced, .leaving] →
      ∃ t, exec (.acceptRefuse n (stationByte s.number) h) s = .next t ∧ Isolated s.replica s t
        ∧ namesFault t.report.status .joinRefused = true)
    ∧ (DefaultSeverity s → s.membership.station ∈ [.synced, .leaving] → ∀ target : Byte,
      let mine : Bool := stationOf target == some s.number
      ∃ t, exec (.acceptRefuse n target h) s = .next t ∧ heardFrom t ∧ t.membership.station = s.membership.station
        ∧ diverges t (!mine && s.settings.digest != some h)
        ∧ (mine = true → namesFault t.report.status .joinRefused = true))

/-! ## The membership timers -/

/-- The snapshot wait expires in JOINING with the founding mark clear: the station founds with itself and the joiners
it remembered, enters SYNCED and posts PRESENCE (R57, R58). With the mark set the attempt ends: JOIN again, or after
the third CONFIG with JOIN_TIMEOUT (R57). In RESYNCING with the mark clear the station founds with its replica kept,
its shed unit as it was, and deferred starts beginning (R71, R135); with it set RESYNC is to be posted again, with
JOIN_TIMEOUT recorded at each attempt after the third (R71), and that the station then awaits no snapshot until that
RESYNC is accepted is log entry 19. An expiry while another station's frame is being received is put off to the end of
that frame (R57, R71), with which the bus is no longer idle (R83), and does all this at the instant the frame is
discarded: at a format error, at a veto or with the bus idle again (R57; log entry 18; the frame that is accepted
instead is in `JoiningStationHears` and `JoinerIsLoadedOrRefused`). A JOIN_TIMEOUT that SET_LOCAL has written fatal
isolates a RESYNCING station, and the one that it takes from JOINING stays in CONFIG (R75, R188). -/
def Obligations.SnapshotWaitExpiry : Prop :=
  ∀ s : State, s.resetting = none → s.report.escalate = false →
    let m := s.membership
    let ends (t : State) : Prop := WaitEnds m.foundingMark m.remembered s.replica s t
      ∧ (Steady s → m.station = .resyncing → m.foundingMark = false →
          (∀ o : OutletNum, EntersSynced s t o) ∧ t.shed = s.shed)
    let discards (c : Instr) : Prop := c = .busIdle ∧ s.tie.mode ≠ .off
      ∨ delivers s = true ∧ ((∃ run, c = .formatError run) ∨ ∃ rx, c = .frameVetoed rx)
    (DefaultSeverity s → m.snapshotWait ≠ none → m.station ∈ [.joining, .resyncing] → s.tie.receiving = false →
      ∃ t, exec (.snapshotWaitExpiry false) s = .next t ∧ ends t)
    ∧ (m.snapshotWait ≠ none → s.tie.receiving = false → m.foundingMark = true → m.attempt = 3 →
      (m.station = .joining → ∃ t, exec (.snapshotWaitExpiry false) s = .next t ∧ t.membership.station = .config
        ∧ namesFault t.report.status .joinTimeout = true ∧ t.settings.digest = none)
      ∧ (m.station = .resyncing → WrittenFatal .joinTimeout s →
          ∃ t, exec (.snapshotWaitExpiry false) s = .next t ∧ Isolated s.replica s t
            ∧ namesFault t.report.status .joinTimeout = true))
    ∧ (m.snapshotWait ≠ none → Settled s → s.tie.receiving = true ∨ (delivers s = true ∧ s.tie.tx = none) →
      Goes (exec (.snapshotWaitExpiry true) s) { s with
        membership := { s.membership with snapshotWait := none, waitExpired := true }
        tie := { s.tie with receiving := true, recessive := 0 } })
    ∧ (DefaultSeverity s → m.waitExpired = true → m.station ∈ [.joining, .resyncing] → s.tie.tx = none →
      ∀ c : Instr, discards c → ∃ t, exec c s = .next t ∧ ends t ∧ t.tie.receiving = false)

/-- The presence timer posts PRESENCE unless one is posted and starts again (R53); a silent PRESENT peer becomes LOST
(R52). In MUTE each presence interval posts one RESYNC attempt unless an outlet is in SOFT (R73); at the isolation
timer's expiry the station records ISOLATION_TIMEOUT and is ISOLATED: outlets OFF and open, queue empty, replica frozen
(R74, R75, R136); that a full event queue leaves the first-fault pointer to ISOLATION_TIMEOUT is log entry 37, the order
of the records log entries 16, 36 and 49. -/
def Obligations.MembershipTimers : Prop :=
  ∀ (s : State) (n : StationNum), s.resetting = none →
    (s.membership.presenceTimer ≠ none → placeFree .presence s = true →
      Goes (exec .presenceTimerExpiry s) { s with
        membership := { s.membership with presenceTimer := some s.settings.shared.presence.val }
        tie := { s.tie with
          queue := s.tie.queue ++ [{ seq := s.tie.nextSeq, item := .presence }], nextSeq := s.tie.nextSeq + 1 } })
    ∧ (s.membership.presenceTimer ≠ none → placeFree .presence s = false →
      Goes (exec .presenceTimerExpiry s) { s with
        membership := { s.membership with presenceTimer := some s.settings.shared.presence.val } })
    ∧ (Settled s → DefaultSeverity s → following s = true → s.membership.peers[n].presence = .present →
      ∃ t, exec (.silenceTimeout n) s = .next t ∧ t.membership.peers[n].presence = .lost
        ∧ t.membership.peers[n].silence = 4 * s.settings.shared.presence.val
        ∧ (∀ m : StationNum, m ≠ n → t.membership.peers[m] = s.membership.peers[m])
        ∧ Reported s t none [.peer n .lost]
        ∧ t.replica = s.replica ∧ t.outlets = s.outlets ∧ t.tie = s.tie ∧ t.settings = s.settings
        ∧ t.membership.station = s.membership.station)
    ∧ (s.membership.muteTimer ≠ none → anySoft s = false → placeFree .membership s = true →
      Goes (exec .muteResyncAttempt s) { s with
        membership := { s.membership with muteTimer := some s.settings.shared.presence.val }
        tie := { s.tie with
          queue := s.tie.queue ++ [{ seq := s.tie.nextSeq, item := .resync true }], nextSeq := s.tie.nextSeq + 1 } })
    ∧ (s.membership.muteTimer ≠ none → anySoft s = true →
      Goes (exec .muteResyncAttempt s) { s with
        membership := { s.membership with muteTimer := some s.settings.shared.presence.val } })
    ∧ (s.membership.isolationTimer ≠ none → s.membership.station ≠ .dormant →
      ∃ t, exec .isolationTimerExpiry s = .next t ∧ t.membership.station = .isolated
        ∧ namesFault t.report.status .isolationTimeout = true ∧ allSwitchesOpen t
        ∧ (∀ o : OutletNum, t.outlets[o].state = .off ∧ t.outlets[o].standing = .absent ∧ t.outlets[o].due = none)
        ∧ t.tie.queue = [] ∧ t.tie.mode ≠ .active
        ∧ t.replica = s.replica ∧ t.check = s.check ∧ t.membership.isolationTimer = none
        ∧ (∀ n : StationNum, t.membership.peers[n].presence = s.membership.peers[n].presence
            ∧ t.membership.peers[n].duty = .none)
        ∧ (Steady s → Reported s t (some .isolationTimeout) (.fault .isolationTimeout :: .station .isolated .isolation ::
            (allOutlets.filter fun o => s.outlets[o].state != .off).map fun o => .outlet o .off .station))
        ∧ t.shed.localCount = 0 ∧ t.shed.driving = false ∧ t.settings = s.settings)

/-! ## The outlets -/

/-- At the end of the changeover gap the weak switch closes (R114, R125): with neither input asserted the settle timer
starts; a trip input already asserted fails the start at that instant (R129), a settle input already asserted settles
the outlet at that instant (R127), and with both either is taken first, in an order the manual leaves open (log entry
3): FAULT with CANCEL, or ON and then FAULT with RELEASE (R129). The settle input takes a SOFT outlet on the weak path
to ON with STARTED posted, and a RESYNC that waited for it after that (R67, R127); a trip input asserted as the strong
switch closes is a trip in ON, whose RELEASE takes the place of the STARTED (R106, R129). Elsewhere the settle input
only moves. That inputs keep their level is the model's choice, log entry 11. -/
def Obligations.SoftStartAndSettle : Prop :=
  ∀ (o : OutletNum) (s : State), s.resetting = none → Settled s → DefaultSeverity s →
    let x := s.outlets[o]
    let trip : Bool := s.pins.trip.getLsbD o.val
    let settle : Bool := s.pins.settle.getLsbD o.val
    let others (t : State) : Prop := (∀ o' : OutletNum, o' ≠ o → t.outlets[o'] = s.outlets[o'])
      ∧ t.replica = s.replica ∧ WishFollows s t ∧ t.shed = s.shed ∧ t.settings = s.settings
    let settled (y : Outlet) (t : State) : Prop := t.outlets = s.outlets.set o y
        ∧ t.tie.queue = s.tie.queue ++ [{ seq := s.tie.nextSeq, item := .started o }]
            ++ (if postsWish s t then [{ seq := s.tie.nextSeq + 1, item := .resync false }] else [])
        ∧ Reported s t none [.outlet o .on .settled] ∧ others t
    let failed (t : State) : Prop := t.outlets[o].state = .fault ∧ t.outlets[o].path = .allOpen
      ∧ t.outlets[o].gap = none ∧ t.outlets[o].settle = none ∧ namesFault t.report.status .overcurrent = true ∧ others t
    let inSoft (t : State) : Prop := failed t ∧ CancelPosted o s t
      ∧ Reported s t (some .overcurrent) [.fault .overcurrent, .outlet o .fault .overcurrent]
    let inOn (t : State) : Prop := failed t
      ∧ isPosted (fun i => i == .release o x.config.priority x.config.weight) t = true
      ∧ ∀ q ∈ t.tie.queue, isStartedOf o q.item = true → inFlight s q = true
    (x.gap ≠ none → trip = false → settle = false →
      Goes (exec (.gapExpiry o) s) { s with
        outlets := s.outlets.set o { x with path := .weak, gap := none, settle := some x.config.settleTimeout.val } })
    ∧ (x.state = .soft → x.gap ≠ none → s.membership.station ≠ .dormant → trip = true → settle = false →
      ∃ t, exec (.gapExpiry o) s = .next t ∧ inSoft t)
    ∧ (x.state = .soft → x.gap ≠ none → placeFree (.outlet o) s = true → trip = false → settle = true →
      ∃ t, exec (.gapExpiry o) s = .next t ∧ settled { x with state := .on, path := .full, gap := none, settle := none } t)
    ∧ (x.state = .soft → x.gap ≠ none → placeFree (.outlet o) s = true → Lawful s → trip = true → settle = true →
      ∃ t, exec (.gapExpiry o) s = .next t ∧ (inSoft t ∨ inOn t))
    ∧ (x.state = .soft → x.path = .weak → placeFree (.outlet o) s = true → trip = false →
      ∃ t, exec (.settle o true) s = .next t ∧ t.pins.settle.getLsbD o.val = true
        ∧ settled { x with state := .on, path := .full, settle := none } t)
    ∧ (x.state = .soft → x.path = .weak → placeFree (.outlet o) s = true → Lawful s → trip = true →
      ∃ t, exec (.settle o true) s = .next t ∧ t.pins.settle.getLsbD o.val = true ∧ inOn t)
    ∧ (∀ level, ¬(level = true ∧ s.outlets[o].state = .soft ∧ s.outlets[o].path = .weak) →
      ∃ t, exec (.settle o level) s = .next t ∧ t = { s with pins := t.pins, unexecuted := t.unexecuted } ∧ t.pins.settle.getLsbD o.val = level)

/-- A SOFT outlet whose settle timer expires goes to FAULT with its switches open and SETTLE_TIMEOUT recorded (R128); an
ON outlet that trips goes to FAULT with its switches open, RELEASE posted or due and OVERCURRENT recorded (R129); with
every switch open a trip is not seen (R131); at the end of the bleed the weak switch opens, and a STOPPING outlet whose
RELEASE is answered enters OFF (R132, R144, R150). A trip in SOFT fails the start (R129); on the reserve path it takes
QUEUED, WAITING, ADMITTED and SHED to FAULT with any claim given up (R130); while the weak switch bleeds it ends the
bleed (R131, R150). Each recording posts its FAULT record and sets the pointer where that is clear, each change of state
its OUTLET record (R115, R182 to R189; the order of the two is log entry 16, the pointer at a full queue log entry 37,
and the cause BLEED of a STOPPING outlet whose bleed a trip ends log entry 24).
A SETTLE_TIMEOUT or OVERCURRENT that SET_LOCAL has written fatal isolates a station whose replica follows when that
treatment is complete (R75, R136, R188; the outlet order of the records is log entry 49).
That a TRIP row with level false leaves the input at that level is the model's choice, log entry 11. -/
def Obligations.OutletTimersAndTrip : Prop :=
  ∀ (o : OutletNum) (s : State), s.resetting = none → s.membership.station ≠ .dormant → Settled s →
    let answered : Bool := !isPosted (isReleaseOf o) s && s.outlets[o].due != some .release
    let ended : List EventRecord :=
      if s.outlets[o].state = .stopping ∧ answered = true then [.outlet o .off .bleed] else []
    let advisory (f : FaultName) : Prop := Advisory [f, .eventOverflow] s
    let leftOff (o' : OutletNum) : Bool := isOff s o' || o' == o && !ended.isEmpty
    (advisory .settleTimeout → s.outlets[o].state = .soft → s.outlets[o].settle ≠ none →
      ∃ t, exec (.settleTimerExpiry o) s = .next t ∧ t.outlets[o].state = .fault ∧ t.outlets[o].path = .allOpen
        ∧ t.outlets[o].settle = none ∧ namesFault t.report.status .settleTimeout = true
        ∧ Reported s t (some .settleTimeout) [.fault .settleTimeout, .outlet o .fault .settleTimeout]
        ∧ (placeFree (.outlet o) s = true → isPosted (fun i => i == .cancel o) t = true)
        ∧ (placeFree (.outlet o) s = false → t.outlets[o].due = some .cancel)
        ∧ (∀ o' : OutletNum, o' ≠ o → t.outlets[o'] = s.outlets[o']) ∧ t.replica = s.replica ∧ WishFollows s t)
    ∧ (advisory .overcurrent → s.outlets[o].state = .soft → s.outlets[o].path = .weak →
      ∃ t, exec (.trip o true) s = .next t ∧ t.outlets[o].state = .fault ∧ t.outlets[o].path = .allOpen
        ∧ t.outlets[o].settle = none ∧ namesFault t.report.status .overcurrent = true ∧ CancelPosted o s t
        ∧ Reported s t (some .overcurrent) [.fault .overcurrent, .outlet o .fault .overcurrent]
        ∧ (∀ o' : OutletNum, o' ≠ o → t.outlets[o'] = s.outlets[o']) ∧ t.replica = s.replica ∧ WishFollows s t)
    ∧ (advisory .overcurrent → s.outlets[o].path = .reserve →
      s.outlets[o].state ∈ [.queued, .waiting, .admitted, .shed] →
      ∃ t, exec (.trip o true) s = .next t ∧ t.outlets[o].state = .fault ∧ t.outlets[o].path = .allOpen
        ∧ namesFault t.report.status .overcurrent = true
        ∧ Reported s t (some .overcurrent) [.fault .overcurrent, .outlet o .fault .overcurrent]
        ∧ (s.outlets[o].state = .queued → claimInFlight o s = false → isPosted (isClaimOf o) t = false)
        ∧ (s.outlets[o].state = .queued → claimInFlight o s = true →
            CancelPosted o s t ∧ t.outlets[o].claimOutstanding = true)
        ∧ (s.outlets[o].state ∈ [.waiting, .admitted] → CancelPosted o s t)
        ∧ (∀ o' : OutletNum, o' ≠ o → t.outlets[o'].state = s.outlets[o'].state
            ∧ t.outlets[o'].path = s.outlets[o'].path)
        ∧ t.replica = s.replica ∧ t.membership = s.membership)
    ∧ (advisory .overcurrent → s.outlets[o].path = .weak → s.outlets[o].state ∈ [.dropped, .shed, .stopping] →
      ∃ t, exec (.trip o true) s = .next t ∧ t.outlets[o].path = .allOpen ∧ t.outlets[o].bleed = none
        ∧ t.outlets[o].state = (if s.outlets[o].state = .stopping ∧ answered = true then .off else s.outlets[o].state)
        ∧ namesFault t.report.status .overcurrent = true
        ∧ Reported s t (some .overcurrent) (.fault .overcurrent :: ended)
        ∧ (∀ o' : OutletNum, o' ≠ o → t.outlets[o'] = s.outlets[o'])
        ∧ t.replica = s.replica ∧ t.tie = s.tie ∧ t.membership = s.membership)
    ∧ (advisory .overcurrent → s.outlets[o].state = .on → s.outlets[o].path = .full →
      ∃ t, exec (.trip o true) s = .next t ∧ t.outlets[o].state = .fault ∧ t.outlets[o].path = .allOpen
        ∧ namesFault t.report.status .overcurrent = true ∧ t.pins.trip.getLsbD o.val = true ∧ ReleasePosted o s t
        ∧ Reported s t (some .overcurrent) [.fault .overcurrent, .outlet o .fault .overcurrent]
        ∧ (∀ o' : OutletNum, o' ≠ o → t.outlets[o'].state = s.outlets[o'].state
            ∧ t.outlets[o'].path = s.outlets[o'].path)
        ∧ t.replica = s.replica ∧ t.membership = s.membership)
    ∧ (∀ level, s.outlets[o].path = .allOpen ∨ level = false →
      ∃ t, exec (.trip o level) s = .next t ∧ t = { s with pins := t.pins, unexecuted := t.unexecuted } ∧ t.pins.trip.getLsbD o.val = level)
    ∧ (Calm s → following s = true →
      (WrittenFatal .settleTimeout s → s.outlets[o].state = .soft → s.outlets[o].settle ≠ none →
        ∃ t, exec (.settleTimerExpiry o) s = .next t ∧ Isolated s.replica s t
          ∧ namesFault t.report.status .settleTimeout = true
          ∧ Reported s t (some .settleTimeout)
              (.fault .settleTimeout :: .outlet o .fault .settleTimeout :: isolationRecords leftOff))
      ∧ (WrittenFatal .overcurrent s → s.outlets[o].path ≠ .allOpen →
        ∃ t, exec (.trip o true) s = .next t ∧ Isolated s.replica s t ∧ t.pins.trip.getLsbD o.val = true
          ∧ namesFault t.report.status .overcurrent = true
          ∧ Reported s t (some .overcurrent) (.fault .overcurrent ::
              (if s.outlets[o].state ∈ [.dropped, .shed, .stopping] ∧ s.outlets[o].path = .weak then ended
                else [.outlet o .fault .overcurrent]) ++ isolationRecords leftOff)))
    ∧ (advisory .eventOverflow → s.outlets[o].bleed ≠ none →
      ∃ t, exec (.bleedExpiry o) s = .next t ∧ t.outlets[o].path = .allOpen ∧ t.outlets[o].bleed = none
        ∧ t.outlets[o].state = (if s.outlets[o].state = .stopping ∧ answered = true then .off else s.outlets[o].state)
        ∧ Reported s t none ended
        ∧ (∀ o' : OutletNum, o' ≠ o → t.outlets[o'] = s.outlets[o'])
        ∧ t.replica = s.replica ∧ t.tie = s.tie ∧ t.membership = s.membership ∧ t.settings = s.settings)

/-! ## The shed line -/

/-- A fall of the line from READY in a following state is a counted pulse: the count is raised unless the local level is
8, the step timer starts afresh, the shed-frame wait starts unless it runs, and ON and SOFT outlets below the new local
level are DROPPED (R137, R142, R143, R146); an outlet that so leaves SOFT lets a RESYNC that waited for it be posted
(R67). That every SHED_PULSE row, being the fall of another station's drive, starts the wait is log entry 9. -/
def Obligations.CountedPulse : Prop :=
  ∀ s : State, s.resetting = none → following s = true → s.shed.line = .ready → Settled s → DefaultSeverity s →
    let level := if localLevel s < 8 then localLevel s + 1 else localLevel s
    ∃ t, exec .shedPulse s = .next t ∧ t.shed.line = .asserted ∧ t.pins.shedLow = true
      ∧ localLevel t = level ∧ t.replica = s.replica
      ∧ t.shed.stepTimer = some s.settings.station.stepInterval.val
      ∧ t.shed.frameWait = (if s.shed.frameWait.isSome then s.shed.frameWait else some 5)
      ∧ Dropped level s t ∧ Reported s t none (pulseRecords level s)
      ∧ t.tie.queue.map Posted.seq = s.tie.queue.map Posted.seq ++ (if postsWish s t then [s.tie.nextSeq] else [])
      ∧ WishFollows s t ∧ t.settings = s.settings

/-- The line: READY once it has been high long enough while the tie clock runs, RECOVERING at a rise unless this
station drives, a fall from RECOVERING not counted, the drive's end (R137, R139). A fall from READY in CONFIG, JOINING,
REFUSED and ISOLATED takes the line to ASSERTED and is not counted (R137, R138). In DORMANT the line is not watched
(R137); that its level alone is then kept, during a reset too, is log entry 35. The step timer's expiry with the live
flag clear stops it; with the flag set it raises a demand (R139, R140), and that the timer starts again then is log
entry 20; the shed-frame wait's expiry posts nothing at count 0, and SHED at the local level if the count is above 0,
as the shed place allows: a posted SHED is raised, a RESTORE not in flight gives way, one in flight is marked and the
post is pending (R145, R146). That a SHED_LINE_RISE row while this station drives, and a SHED_PULSE row where the line
is not READY, leave the state as it was is the model's choice, log entry 4. -/
def Obligations.ShedLineAndTimers : Prop :=
  ∀ s : State,
    (s.resetting ≠ none ∨ s.membership.station = .dormant →
      (∀ c ∈ [Instr.shedPulse, .uncountedShedFall], Goes (exec c s) { s with pins := { s.pins with shedLow := true } })
      ∧ Goes (exec .shedLineRise s) { s with pins := { s.pins with shedLow := false } }
      ∧ Goes (exec .shedLineReady s) s)
    ∧ (s.resetting = none → s.membership.station ≠ .dormant →
      let restoring : Bool := s.tie.queue.any fun q => isRestore q.item && inFlight s q
      let raised (q : Posted) : Posted := match q.item with
        | .shed l => if l.val < localLevel s then { q with item := .shed (toLevel (localLevel s)) } else q
        | _ => q
      let marked (q : Posted) : Posted := if isRestore q.item && inFlight s q then { q with marked := true } else q
      (s.shed.line = .ready → following s = false → Goes (exec .shedPulse s) { s with
        pins := { s.pins with shedLow := true }, shed := { s.shed with line := .asserted } })
      ∧ (s.shed.line ≠ .ready → Goes (exec .shedPulse s) s)
      ∧ (s.shed.line = .recovering → s.clock.pll = .locked →
        Goes (exec .shedLineReady s) { s with shed := { s.shed with line := .ready } })
      ∧ (s.clock.pll ≠ .locked → Goes (exec .shedLineReady s) s)
      ∧ (s.shed.line = .asserted → s.shed.driving = false → Goes (exec .shedLineRise s) { s with
          pins := { s.pins with shedLow := false }, shed := { s.shed with line := .recovering } })
      ∧ (s.shed.driving = true → Goes (exec .shedLineRise s) s)
      ∧ (s.shed.line = .recovering → Goes (exec .uncountedShedFall s) { s with
          pins := { s.pins with shedLow := true }, shed := { s.shed with line := .asserted } })
      ∧ Goes (exec .pulseDriveEnd s) { s with shed := { s.shed with driving := false } }
      ∧ (Settled s → s.shed.stepTimer ≠ none → s.rail.live = false →
        Goes (exec .stepTimerExpiry s) { s with shed := { s.shed with stepTimer := none } })
      ∧ (Lawful s → DefaultSeverity s → s.shed.stepTimer ≠ none → s.rail.live = true →
        let again : State := { s with shed := { s.shed with stepTimer := some s.settings.station.stepInterval.val } }
        ∃ t, exec .stepTimerExpiry s = .next t ∧ Demanded again t ∧ Reported s t none (demandRecords s)
          ∧ t.replica = s.replica ∧ WishFollows s t ∧ t.settings = s.settings ∧ t.rail = s.rail)
      ∧ (s.shed.frameWait ≠ none → s.shed.localCount = 0 →
        Goes (exec .shedFrameWaitExpiry s) { s with shed := { s.shed with frameWait := none } })
      ∧ (s.shed.frameWait ≠ none → s.shed.localCount ≠ 0 → placeFree .shed s = true → drainLawful s →
        (∀ o : OutletNum, s.outlets[o].due = none) →
        Goes (exec .shedFrameWaitExpiry s) { s with
          shed := { s.shed with frameWait := none }
          tie := { s.tie with
            queue := s.tie.queue ++ [{ seq := s.tie.nextSeq, item := .shed (toLevel (localLevel s)) }]
            nextSeq := s.tie.nextSeq + 1 } })
      ∧ (s.shed.frameWait ≠ none → s.shed.localCount ≠ 0 → isPosted isShed s = true →
        Goes (exec .shedFrameWaitExpiry s) { s with
          shed := { s.shed with frameWait := none }
          tie := { s.tie with queue := s.tie.queue.map raised } })
      ∧ (s.shed.frameWait ≠ none → s.shed.localCount ≠ 0 → isPosted isShed s = false → restoring = true →
        Goes (exec .shedFrameWaitExpiry s) { s with
          shed := { s.shed with frameWait := none, postPending := true }
          tie := { s.tie with queue := s.tie.queue.map marked } })
      ∧ (Lawful s → s.shed.frameWait ≠ none → s.shed.localCount ≠ 0 → isPosted isRestore s = true → restoring = false →
        ∃ t, exec .shedFrameWaitExpiry s = .next t ∧ t.shed = { s.shed with frameWait := none }
          ∧ t.tie.queue = (s.tie.queue.filter fun q => !isRestore q.item)
              ++ [{ seq := s.tie.nextSeq, item := .shed (toLevel (localLevel s)) }]
          ∧ t.outlets = s.outlets ∧ t.report = s.report ∧ t.replica = s.replica ∧ t.membership = s.membership
          ∧ t.settings = s.settings))

/-! ## The monitors -/

/-- A sag that has lasted the filter time sets the rail live and sticky flags and records RAIL_SAG, and in SYNCED,
RESYNCING, MUTE and LEAVING it raises a demand (R139, R160); a shorter one is counted; a reading of no sag clears flag
and count and leaves the sticky flag (R155 to R162); the count stops where its flag sets (R159). A low cell of 2 ms sets
the reserve flags, records RESERVE_LOW and opens every reserve switch with the states kept (R133, R163, R164). Each
recording posts its FAULT record, sets the status and, where it is clear and the fault unmasked, the pointer, before the
OUTLET records of the outlets it drops or opens; a full queue drops records with EVENT_OVERFLOW, and a disabled kind
posts none (R115, R182 to R189; the order of the records is log entry 16, the pointer at a full queue log entry 37). A
RAIL_SAG or RESERVE_LOW that SET_LOCAL has written fatal isolates a station in JOINING, SYNCED, RESYNCING, MUTE or
LEAVING when the treatment is complete, the demand made and its pulse on the line (R75, R136, R139, R188); in CONFIG,
REFUSED and ISOLATED it is recorded only (R188). The outlet order of the RESERVE_LOW records and of those of the
isolation is log entry 49. So are written fatal faults stated in `OutletTimersAndTrip` (OVERCURRENT, SETTLE_TIMEOUT),
`FourthFailureMutes` (SEND_FAILED), `VetoRunCount` (VETO_LIMIT), `AcceptedFrameMakesReplica` (OVERCOMMIT,
FOREIGN_FRAME), `JoinerIsLoadedOrRefused` (JOIN_REFUSED, DIVERGENCE), `PresenceComparesChecks` (DIVERGENCE,
JOIN_REFUSED) and `SnapshotWaitExpiry` (JOIN_TIMEOUT). The levels in thousandths and the operands of the rows are the
model's choice, log entry 10. -/
def Obligations.MonitorsSetFlags : Prop :=
  ∀ (s : State) (sense ticks : Nat), s.resetting = none → s.membership.station ≠ .dormant → s.clock.running = true →
    let threshold := 600 + 20 * s.settings.station.railThreshold.val
    let filter := if s.rail.inrush then s.settings.station.inrushFilter.val else s.settings.station.sagFilter.val
    let cell := match s.settings.station.reserveThreshold with | .standard => 850 | .extended => 750
    let member : Bool := s.membership.station == .joining || following s
    let drives : Bool := following s && localLevel s < 8 && s.shed.line == .ready
    let opened : List EventRecord := (allOutlets.filter fun o => s.outlets[o].path == .reserve).map fun o =>
      .outlet o s.outlets[o].state .reserveLow
    (sense < threshold → s.rail.live = false → filter ≤ s.rail.count.val + ticks →
      ∃ t, exec (.railSagRise sense ticks) s = .next t ∧ t.rail.live = true ∧ t.rail.sticky = true
        ∧ namesFault t.report.status .railSag = true ∧ t.pins.railSense = sense ∧ t.replica = s.replica
        ∧ (s.rail.count.val < filter → filter ≤ 60 → t.rail.count.val = filter)
        ∧ (following s = true → Lawful s → Advisory [.railSag, .eventOverflow] s → Demanded s t ∧ WishFollows s t)
        ∧ (Settled s → member = false ∨ Advisory [.railSag, .eventOverflow] s → Reported s t (some .railSag)
            (.fault .railSag :: if following s then demandRecords s else []))
        ∧ (following s = false → Settled s → member = false ∨ Advisory [.railSag, .eventOverflow] s →
            t.shed = s.shed ∧ t.outlets = s.outlets ∧ t.tie = s.tie ∧ t.membership = s.membership)
        ∧ (member = true → Lawful s → WrittenFatal .railSag s → Isolated s.replica s t
            ∧ t.shed.line = (if drives then .asserted else s.shed.line) ∧ t.pins.shedLow = (s.pins.shedLow || drives)
            ∧ Reported s t (some .railSag)
                (.fault .railSag :: (if following s then demandRecords s else []) ++ isolationRecords (isOff s)))
        ∧ t.settings = s.settings ∧ t.reserve = s.reserve)
    ∧ (sense < threshold → s.rail.live = false → s.rail.count.val + ticks < filter →
      ∃ t, exec (.railSagRise sense ticks) s = .next t ∧ t.rail.count.val = s.rail.count.val + ticks
        ∧ t = { s with
            pins := { s.pins with railSense := sense }, rail := { s.rail with count := t.rail.count }
            unexecuted := t.unexecuted })
    ∧ (threshold ≤ sense → Goes (exec (.railSagFall sense) s) { s with
        pins := { s.pins with railSense := sense }, rail := { s.rail with live := false, count := 0 } })
    ∧ (sense < cell → s.reserve.live = false → 2 ≤ s.reserve.count.val + ticks → Settled s →
      ∃ t, exec (.reserveLowRise sense ticks) s = .next t ∧ t.reserve.live = true ∧ t.reserve.sticky = true
        ∧ namesFault t.report.status .reserveLow = true ∧ (s.reserve.count.val < 2 → t.reserve.count = 2)
        ∧ t.replica = s.replica ∧ t.settings = s.settings
        ∧ (member = false ∨ Advisory [.reserveLow, .eventOverflow] s →
            Reported s t (some .reserveLow) (.fault .reserveLow :: opened)
            ∧ (∀ o : OutletNum, t.outlets[o]
                = if s.outlets[o].path = .reserve then { s.outlets[o] with path := .allOpen } else s.outlets[o])
            ∧ t.tie = s.tie ∧ t.membership = s.membership ∧ t.rail = s.rail ∧ t.shed = s.shed)
        ∧ (member = true → Calm s → WrittenFatal .reserveLow s → Isolated s.replica s t
            ∧ Reported s t (some .reserveLow) (.fault .reserveLow :: opened ++ isolationRecords (isOff s))))
    ∧ (cell ≤ sense → Goes (exec (.reserveLowFall sense) s) { s with
        pins := { s.pins with reserveSense := sense }, reserve := { s.reserve with live := false, count := 0 } })

/-! ## Clocks and resets -/

/-- Lock posts JOIN and takes a station that awaits it to JOINING; the lock limit unseals the settings with
CLOCK_UNLOCK; a started oscillator becomes the source in use (R54, R194). That the reference runs after a lock limit
that found it stopped is the model's reading, log entry 27. Loss of lock stops the PLL and turns the tie interface OFF
with CLOCK_UNLOCK recorded, and isolates a station in a state that a fatal fault isolates; a crystal that stops leaves
the internal oscillator in use (R188, R195). -/
def Obligations.ClockStartsAndFails : Prop :=
  ∀ s : State, s.resetting = none →
    (Settled s → DefaultSeverity s → s.membership.station = .config →
      (s.clock.pll = .starting → placeFree .membership s = true →
        ∃ t, exec .pllLock s = .next t ∧ t.clock.pll = .locked ∧ t.clock.lockLimit = none
          ∧ t.membership.station = .joining ∧ t.settings.awaitingLock = false ∧ t.settings.digest = s.settings.digest
          ∧ (s.tie.mode = .off → t.tie.mode = .seeking)
          ∧ isPosted (fun i => i == .join (ownDigest s)) t = true ∧ t.replica = s.replica ∧ t.outlets = s.outlets)
      ∧ (s.clock.lockLimit ≠ none →
        ∃ t, exec .lockLimitExpiry s = .next t ∧ t.clock.pll = .stopped ∧ t.clock.lockLimit = none
          ∧ t.clock.running = true ∧ namesFault t.report.status .clockUnlock = true ∧ t.settings.digest = none
          ∧ t.settings.awaitingLock = false ∧ t.settings.shared = s.settings.shared ∧ t.membership.station = .config
          ∧ t.replica = s.replica ∧ t.outlets = s.outlets)
      ∧ (∀ source, s.clock.starting = some source →
        ∃ t, exec .oscillatorRunning s = .next t ∧ t.clock.source = source ∧ t.clock.running = true
          ∧ t.clock.starting = none ∧ t = { s with clock := t.clock, unexecuted := t.unexecuted }))
    ∧ (s.membership.station ≠ .dormant →
      (s.clock.pll = .locked →
        ∃ t, exec .lossOfLock s = .next t ∧ t.clock.pll = .stopped ∧ t.tie.mode = .off ∧ t.tie.tx = none
          ∧ t.shed.driving = false ∧ namesFault t.report.status .clockUnlock = true ∧ t.replica = s.replica
          ∧ (s.membership.station ∈ [.joining, .synced, .resyncing, .mute, .leaving] →
              t.membership.station = .isolated ∧ t.tie.queue = [] ∧ allSwitchesOpen t)
          ∧ (s.membership.station ∈ [.config, .refused] → t.membership.station = s.membership.station
              ∧ ∀ o : OutletNum, t.outlets[o].state = s.outlets[o].state))
      ∧ (s.clock.source ≠ .internal → s.clock.running = true →
        ∃ t, exec .crystalStop s = .next t ∧ t.clock.source = .internal ∧ t.clock.running = true
          ∧ t.replica = s.replica
          ∧ (s.clock.pll = .locked → t.clock.pll = .stopped ∧ t.tie.mode = .off)
          ∧ (s.clock.pll = .stopped → namesFault t.report.status .clockUnlock = true)))

/-- At the start of either reset every outlet switch opens, the tie interface and the shed unit stop driving and the
PLL stops; the reset input is held until its release; RESET begins a station reset at its execution, which stays in
execution without a response (R179, R196). A reset that comes while a request executes abandons the execution without
its effect: the fault status, the pointer, the sticky flags, the pins and all else are those of the station as it
stands without that effect (R179; that the effect is made at the request's row, and the station without it goes on
beside, is log entry 7), so that after an abandoned SHED the line is RECOVERING (R137). A reset that begins during
another starts it afresh, with its own cause: the row of its completion then comes at the end of the restarted time
(R196, log entry 25); that a reset input which falls during the reset of a RESET command gives the cause RESET_INPUT,
that one which falls during a power-on reset only holds that reset, and that a power-on reset keeps an input held as it
is, is log entry 28. That a completion with the input held has no effect is the model's reading, log entry 28. At the
completion of a reset the number is latched and every block has its reset values, of which bit-rate code 2, recessive
count 0, receiving and aborting false and next posting sequence 0 of the tie interface are the model's choice, log
entry 13; a station reset keeps the sticky flags, the fault status and the pointer, and a kept unmasked status asserts
attention (R22, R168, R192, R196). The response buffer is IDLE at completion where select is high. Where a transaction
is under way its buffer stays as it was loaded: that reconciles two sentences of R179, that a transaction whose falling
edge came before completion delivers no record, or NOT_READY, and that the port holds IDLE after a reset (log entry
45). -/
def Obligations.ResetBeginsAndCompletes : Prop :=
  ∀ (s : State) (a : StationNum),
    let kept : Station := s.unexecuted.getD s.toStation
    let begun (t : State) (run : ResetRun) (e : Option Execution) : Prop := t.resetting = some run
      ∧ (∀ o : OutletNum, t.outlets[o].path = .allOpen) ∧ t.tie.tx = none
      ∧ t.tie.aborting = false ∧ t.shed.driving = false ∧ t.clock.pll = .stopped ∧ t.port.executing = e
      ∧ t.port.responseBuffer = none ∧ t.unexecuted = none
      ∧ t.report = kept.report ∧ t.rail = kept.rail ∧ t.reserve = kept.reserve ∧ t.pins = kept.pins
      ∧ t.replica = kept.replica ∧ t.settings = kept.settings
    (s.resetting = none → ∃ t, exec .powerOnReset s = .next t ∧ begun t ⟨.powerOn, false⟩ none)
      ∧ (s.resetting = none → ∃ t, exec .resetInput s = .next t ∧ begun t ⟨.resetInput, true⟩ none)
      ∧ (Ready s → ∃ t, exec .reset s = .next t ∧ begun t ⟨.resetCommand, false⟩ (some ⟨16#8, none⟩))
      ∧ (∀ cause held, s.resetting = some ⟨cause, held⟩ →
          (∃ t, exec .powerOnReset s = .next t ∧ begun t ⟨.powerOn, held⟩ none)
          ∧ (cause ≠ .powerOn → ∃ t, exec .resetInput s = .next t ∧ begun t ⟨.resetInput, true⟩ none)
          ∧ (cause = .powerOn → exec .resetInput s = .next { s with resetting := some ⟨.powerOn, true⟩ }))
      ∧ (∀ cause held, s.resetting = some ⟨cause, held⟩ →
          exec .resetInputRelease s = .next { s with resetting := some ⟨cause, false⟩ })
      ∧ (∀ cause, s.resetting = some ⟨cause, true⟩ → exec (.resetCompletion a) s = .next s)
      ∧ ∀ cause, s.resetting = some ⟨cause, false⟩ →
        let station : Bool := cause != .powerOn
        ∃ t, exec (.resetCompletion a) s = .next t ∧ t.number = a ∧ t.resetting = none ∧ t.report.resetCause = cause
          ∧ t.membership = State.reset.membership ∧ t.replica = .empty ∧ t.check = checkOf .empty
          ∧ t.settings = State.reset.settings ∧ t.outlets = State.reset.outlets ∧ t.tie = State.reset.tie
          ∧ t.clock = State.reset.clock
          ∧ t.shed = { State.reset.shed with line := if s.pins.shedLow then .asserted else .recovering }
          ∧ t.rail = { State.reset.rail with sticky := station && s.rail.sticky }
          ∧ t.reserve = { State.reset.reserve with sticky := station && s.reserve.sticky }
          ∧ t.report.events = [] ∧ t.report.overflow = false
          ∧ t.report.status = (if station then s.report.status else 0#16)
          ∧ t.report.first = (if station then s.report.first else none)
          ∧ t.report.attention = (station && s.report.status != 0#16)
          ∧ t.port.executing = none ∧ t.port.lastResponse = none
          ∧ t.port.responseBuffer = (if s.port.selectLow then s.port.responseBuffer else some .idle)
          ∧ t.port.drainSet = [] ∧ t.port.drained = true ∧ t.pending = s.pending

/-! ## What every step keeps -/

/-- Every step keeps: the state check is that of the replica as it stands (R14), a live flag has its sticky flag set
(R162), the drained flag is set exactly while the drain set is empty (R177), and the laws of the report unit: at most 32
records, a pointer names a fault whose status is set, attention is as its sources give it (R182, R189, R191). All this
is said of the station with and of the one without the effect of a request in execution, which stand side by side by log
entry 7. -/
def Obligations.StepKeepsCheckFlagsAndReport : Prop :=
  ∀ s t : State, step s = .next t →
    (Both checkLawful s → Both checkLawful t) ∧ (Both stickyLawful s → Both stickyLawful t)
      ∧ (Both drainLawful s → Both drainLawful t) ∧ (Both reportLawful s → Both reportLawful t)

/-- Every step keeps: the lists within 32 entries (R5), no bin and no entry below the shed level (R10), no units and no
entries of a station outside the member set (R3, R26), no pair twice across the lists (R5). All this is said of the
station with and of the one without the effect of a request in execution, which stand side by side by log entry 7. -/
def Obligations.StepKeepsAccountLaws : Prop :=
  ∀ s t : State, step s = .next t →
    let lawful (u : State) : Prop :=
      listsBounded u.replica ∧ nothingBelowShed u.replica ∧ onlyMembersHold u.replica ∧ noPairTwice u.replica
    Both lawful s → Both lawful t

/-- Every step keeps the laws of the outlets, in a station that obeys the laws of every unit (R5, R113, R49): the path
is one allowed in the outlet's state, the strong switch is closed on a closed weak switch alone and the reserve switch
beside no other (R112), each timer runs in its states (R112, R114, R125), the standing is the account's where the
replica follows accepted frames and ABSENT elsewhere (R9, R20), a frame is due only while both places are taken (R116);
in the station states that ask for it every outlet is OFF with every switch open (R49), the reserve sum stays within RU
(R113) and no outlet is on the reserve path while reserve-low is live (R133). All this is said of the station with and
of the one without the effect of a request in execution, which stand side by side by log entry 7. -/
def Obligations.StepKeepsOutletLaws : Prop :=
  ∀ s t : State, step s = .next t → Both Lawful s → Both (fun u => outletsLawful u ∧ switchesLawful u) t

/-- Every step keeps the laws of the send queue and the tie interface, in a station that obeys the laws of every unit:
no place class holds more than its places (R101), posting sequences rise, the drain set names posted frames (R177), only
a frame in flight is marked (R105) and the states that send nothing keep none other (R104), which there and in JOINING
are of the membership class (R103, R104), at most one CLAIM of an outlet is posted, and only while the outlet is QUEUED
or has its claim-outstanding mark set (R106, R117, R118, R130), RESYNC is posted in MUTE and in RESYNCING while no
snapshot is awaited (R67, R73), an expired wait ending the awaiting by log entry 19, a frame in flight is a posted one
as it stands, its interface ACTIVE and not receiving (R80, R83, R89, R101), vetoing is suppressed at eight vetoes (R97),
and the interface is OFF while the PLL is not LOCKED (R80, R195). All this is said of the station with and of the one
without the effect of a request in execution, which stand side by side by log entry 7. -/
def Obligations.StepKeepsQueueLaws : Prop :=
  ∀ s t : State, step s = .next t → Both Lawful s → Both (fun u => queueLawful u ∧ postedLawful u ∧ tieLawful u) t

/-- Every step keeps the laws of the shed unit, the membership unit, the clock and resets, in a station that obeys the
laws of every unit: the local level is at most 8 and the shed unit idles outside the active states (R138, R142), duties
stand in SYNCED alone (R59), presences are those of the member set (R51), a silence count stands in PRESENT and LOST
entries alone, the count 0 of an entry that becomes ABSENT being log entry 46 (R51, R52), timers run in their states
(R53, R57, R72), the awaiting condition stands with the wait, which in RESYNCING is log entry 19 (R57, R71), settings
are sealed outside CONFIG, REFUSED and DORMANT (R12), the PLL is LOCKED from JOINING on (R54, R195), a source is being
started only while lock is awaited or the reference is stopped (R194, R198), and a transaction under way during a reset
is one to be discarded (R179). All this is said of the station with and of the one without the effect of a request in
execution, which stand side by side by log entry 7. -/
def Obligations.StepKeepsUnitLaws : Prop :=
  ∀ s t : State, step s = .next t → Both Lawful s →
    Both (fun u => shedLawful u ∧ peersLawful u ∧ waitsLawful u ∧ clockLawful u ∧ quietLawful u) t

/-- Every step leaves nothing to be done, in a station that obeys the laws of every unit: the inrush mark is right
(R158), no fatal fault is to be escalated (R188), a RESYNC waited for has an outlet in SOFT or the membership place
taken (R67), a standing duty has the snapshot place taken (R59). All this is said of the station with and of the one
without the effect of a request in execution, which stand side by side by log entry 7. Whatever the step, a fault that
is fatal, held so or written so by SET_LOCAL, and whose status the step sets leaves no station in JOINING, SYNCED,
RESYNCING, MUTE or LEAVING (R75, R188). `MonitorsSetFlags` and the statements it names say of each such fault what its
treatment leaves. -/
def Obligations.StepLeavesNothingToBeDone : Prop :=
  ∀ s t : State, step s = .next t → Both Lawful s →
    Both (fun u => u.resetting = none → Settled u) t ∧ (t.resetting = none → FatalIsolates s t)

/-- The state after power-on reset obeys the laws that every step keeps, and every switch of it is open (R49, R110). -/
def Obligations.ResetStateObeysLaws : Prop :=
  Both Lawful State.reset ∧ allSwitchesOpen State.reset
end

