-- ==== Sys2Proof/Laws/State.lean ====
section
/-!
SUPPORT. What each basic update does to each field of the state, one lemma per field, true by rfl, so that no later proof
unfolds a record update.
-/
namespace Sys2Proof.Machine

@[simp] theorem setReplica_number (r : Replica) (s : State) : (setReplica r s).number = s.number := rfl

@[simp] theorem setReplica_resetting (r : Replica) (s : State) : (setReplica r s).resetting = s.resetting := rfl

@[simp] theorem setReplica_pins (r : Replica) (s : State) : (setReplica r s).pins = s.pins := rfl

@[simp] theorem setReplica_port (r : Replica) (s : State) : (setReplica r s).port = s.port := rfl

@[simp] theorem setReplica_settings (r : Replica) (s : State) : (setReplica r s).settings = s.settings := rfl

@[simp] theorem setReplica_clock (r : Replica) (s : State) : (setReplica r s).clock = s.clock := rfl

@[simp] theorem setReplica_tie (r : Replica) (s : State) : (setReplica r s).tie = s.tie := rfl

@[simp] theorem setReplica_replica (r : Replica) (s : State) : (setReplica r s).replica = r := rfl

@[simp] theorem setReplica_check (r : Replica) (s : State) : (setReplica r s).check = checkOf r := rfl

@[simp] theorem setReplica_membership (r : Replica) (s : State) : (setReplica r s).membership = s.membership := rfl

@[simp] theorem setReplica_outlets (r : Replica) (s : State) : (setReplica r s).outlets = s.outlets := rfl

@[simp] theorem setReplica_shed (r : Replica) (s : State) : (setReplica r s).shed = s.shed := rfl

@[simp] theorem setReplica_rail (r : Replica) (s : State) : (setReplica r s).rail = s.rail := rfl

@[simp] theorem setReplica_reserve (r : Replica) (s : State) : (setReplica r s).reserve = s.reserve := rfl

@[simp] theorem setReplica_report (r : Replica) (s : State) : (setReplica r s).report = s.report := rfl

@[simp] theorem setReplica_pending (r : Replica) (s : State) : (setReplica r s).pending = s.pending := rfl

@[simp] theorem setReplica_unexecuted (r : Replica) (s : State) : (setReplica r s).unexecuted = s.unexecuted := rfl

@[simp] theorem setReplica_freeCount (r : Replica) (s : State) : (setReplica r s).freeCount = s.freeCount := rfl

@[simp] theorem setOutlet_number (o : OutletNum) (f : Outlet → Outlet) (s : State) : (setOutlet o f s).number = s.number := rfl

@[simp] theorem setOutlet_resetting (o : OutletNum) (f : Outlet → Outlet) (s : State) :
    (setOutlet o f s).resetting = s.resetting := rfl

@[simp] theorem setOutlet_pins (o : OutletNum) (f : Outlet → Outlet) (s : State) : (setOutlet o f s).pins = s.pins := rfl

@[simp] theorem setOutlet_port (o : OutletNum) (f : Outlet → Outlet) (s : State) : (setOutlet o f s).port = s.port := rfl

@[simp] theorem setOutlet_settings (o : OutletNum) (f : Outlet → Outlet) (s : State) : (setOutlet o f s).settings = s.settings := rfl

@[simp] theorem setOutlet_clock (o : OutletNum) (f : Outlet → Outlet) (s : State) : (setOutlet o f s).clock = s.clock := rfl

@[simp] theorem setOutlet_tie (o : OutletNum) (f : Outlet → Outlet) (s : State) : (setOutlet o f s).tie = s.tie := rfl

@[simp] theorem setOutlet_replica (o : OutletNum) (f : Outlet → Outlet) (s : State) : (setOutlet o f s).replica = s.replica := rfl

@[simp] theorem setOutlet_check (o : OutletNum) (f : Outlet → Outlet) (s : State) : (setOutlet o f s).check = s.check := rfl

@[simp] theorem setOutlet_membership (o : OutletNum) (f : Outlet → Outlet) (s : State) :
    (setOutlet o f s).membership = s.membership := rfl

@[simp] theorem setOutlet_outlets (o : OutletNum) (f : Outlet → Outlet) (s : State) :
    (setOutlet o f s).outlets = s.outlets.set o (f s.outlets[o]) := rfl

@[simp] theorem setOutlet_shed (o : OutletNum) (f : Outlet → Outlet) (s : State) : (setOutlet o f s).shed = s.shed := rfl

@[simp] theorem setOutlet_rail (o : OutletNum) (f : Outlet → Outlet) (s : State) : (setOutlet o f s).rail = s.rail := rfl

@[simp] theorem setOutlet_reserve (o : OutletNum) (f : Outlet → Outlet) (s : State) : (setOutlet o f s).reserve = s.reserve := rfl

@[simp] theorem setOutlet_report (o : OutletNum) (f : Outlet → Outlet) (s : State) : (setOutlet o f s).report = s.report := rfl

@[simp] theorem setOutlet_pending (o : OutletNum) (f : Outlet → Outlet) (s : State) : (setOutlet o f s).pending = s.pending := rfl

@[simp] theorem setOutlet_unexecuted (o : OutletNum) (f : Outlet → Outlet) (s : State) : (setOutlet o f s).unexecuted = s.unexecuted := rfl

@[simp] theorem setOutlet_freeCount (o : OutletNum) (f : Outlet → Outlet) (s : State) :
    (setOutlet o f s).freeCount = s.freeCount := rfl

@[simp] theorem setPeer_number (n : StationNum) (f : Peer → Peer) (s : State) : (setPeer n f s).number = s.number := rfl

@[simp] theorem setPeer_resetting (n : StationNum) (f : Peer → Peer) (s : State) : (setPeer n f s).resetting = s.resetting := rfl

@[simp] theorem setPeer_pins (n : StationNum) (f : Peer → Peer) (s : State) : (setPeer n f s).pins = s.pins := rfl

@[simp] theorem setPeer_port (n : StationNum) (f : Peer → Peer) (s : State) : (setPeer n f s).port = s.port := rfl

@[simp] theorem setPeer_settings (n : StationNum) (f : Peer → Peer) (s : State) : (setPeer n f s).settings = s.settings := rfl

@[simp] theorem setPeer_clock (n : StationNum) (f : Peer → Peer) (s : State) : (setPeer n f s).clock = s.clock := rfl

@[simp] theorem setPeer_tie (n : StationNum) (f : Peer → Peer) (s : State) : (setPeer n f s).tie = s.tie := rfl

@[simp] theorem setPeer_replica (n : StationNum) (f : Peer → Peer) (s : State) : (setPeer n f s).replica = s.replica := rfl

@[simp] theorem setPeer_check (n : StationNum) (f : Peer → Peer) (s : State) : (setPeer n f s).check = s.check := rfl

@[simp] theorem setPeer_membership (n : StationNum) (f : Peer → Peer) (s : State) :
    (setPeer n f s).membership = { s.membership with peers := s.membership.peers.set n (f s.membership.peers[n]) } := rfl

@[simp] theorem setPeer_outlets (n : StationNum) (f : Peer → Peer) (s : State) : (setPeer n f s).outlets = s.outlets := rfl

@[simp] theorem setPeer_shed (n : StationNum) (f : Peer → Peer) (s : State) : (setPeer n f s).shed = s.shed := rfl

@[simp] theorem setPeer_rail (n : StationNum) (f : Peer → Peer) (s : State) : (setPeer n f s).rail = s.rail := rfl

@[simp] theorem setPeer_reserve (n : StationNum) (f : Peer → Peer) (s : State) : (setPeer n f s).reserve = s.reserve := rfl

@[simp] theorem setPeer_report (n : StationNum) (f : Peer → Peer) (s : State) : (setPeer n f s).report = s.report := rfl

@[simp] theorem setPeer_pending (n : StationNum) (f : Peer → Peer) (s : State) : (setPeer n f s).pending = s.pending := rfl

@[simp] theorem setPeer_unexecuted (n : StationNum) (f : Peer → Peer) (s : State) : (setPeer n f s).unexecuted = s.unexecuted := rfl

@[simp] theorem setPeer_freeCount (n : StationNum) (f : Peer → Peer) (s : State) : (setPeer n f s).freeCount = s.freeCount := rfl

@[simp] theorem setLineLevel_number (low : Bool) (s : State) : (setLineLevel low s).number = s.number := rfl

@[simp] theorem setLineLevel_resetting (low : Bool) (s : State) : (setLineLevel low s).resetting = s.resetting := rfl

@[simp] theorem setLineLevel_pins (low : Bool) (s : State) : (setLineLevel low s).pins = { s.pins with shedLow := low } := rfl

@[simp] theorem setLineLevel_port (low : Bool) (s : State) : (setLineLevel low s).port = s.port := rfl

@[simp] theorem setLineLevel_settings (low : Bool) (s : State) : (setLineLevel low s).settings = s.settings := rfl

@[simp] theorem setLineLevel_clock (low : Bool) (s : State) : (setLineLevel low s).clock = s.clock := rfl

@[simp] theorem setLineLevel_tie (low : Bool) (s : State) : (setLineLevel low s).tie = s.tie := rfl

@[simp] theorem setLineLevel_replica (low : Bool) (s : State) : (setLineLevel low s).replica = s.replica := rfl

@[simp] theorem setLineLevel_check (low : Bool) (s : State) : (setLineLevel low s).check = s.check := rfl

@[simp] theorem setLineLevel_membership (low : Bool) (s : State) : (setLineLevel low s).membership = s.membership := rfl

@[simp] theorem setLineLevel_outlets (low : Bool) (s : State) : (setLineLevel low s).outlets = s.outlets := rfl

@[simp] theorem setLineLevel_shed (low : Bool) (s : State) : (setLineLevel low s).shed = s.shed := rfl

@[simp] theorem setLineLevel_rail (low : Bool) (s : State) : (setLineLevel low s).rail = s.rail := rfl

@[simp] theorem setLineLevel_reserve (low : Bool) (s : State) : (setLineLevel low s).reserve = s.reserve := rfl

@[simp] theorem setLineLevel_report (low : Bool) (s : State) : (setLineLevel low s).report = s.report := rfl

@[simp] theorem setLineLevel_pending (low : Bool) (s : State) : (setLineLevel low s).pending = s.pending := rfl

@[simp] theorem setLineLevel_unexecuted (low : Bool) (s : State) : (setLineLevel low s).unexecuted = s.unexecuted := rfl

@[simp] theorem setLineLevel_freeCount (low : Bool) (s : State) : (setLineLevel low s).freeCount = s.freeCount := rfl

@[simp] theorem holdLine_number (s : State) : (holdLine s).number = s.number := rfl

@[simp] theorem holdLine_resetting (s : State) : (holdLine s).resetting = s.resetting := rfl

@[simp] theorem holdLine_pins (s : State) : (holdLine s).pins = s.pins := rfl

@[simp] theorem holdLine_port (s : State) : (holdLine s).port = s.port := rfl

@[simp] theorem holdLine_settings (s : State) : (holdLine s).settings = s.settings := rfl

@[simp] theorem holdLine_clock (s : State) : (holdLine s).clock = s.clock := rfl

@[simp] theorem holdLine_tie (s : State) : (holdLine s).tie = s.tie := rfl

@[simp] theorem holdLine_replica (s : State) : (holdLine s).replica = s.replica := rfl

@[simp] theorem holdLine_check (s : State) : (holdLine s).check = s.check := rfl

@[simp] theorem holdLine_membership (s : State) : (holdLine s).membership = s.membership := rfl

@[simp] theorem holdLine_outlets (s : State) : (holdLine s).outlets = s.outlets := rfl

@[simp] theorem holdLine_shed (s : State) :
    (holdLine s).shed = { s.shed with line := if s.shed.line = .ready then .recovering else s.shed.line } := rfl

@[simp] theorem holdLine_rail (s : State) : (holdLine s).rail = s.rail := rfl

@[simp] theorem holdLine_reserve (s : State) : (holdLine s).reserve = s.reserve := rfl

@[simp] theorem holdLine_report (s : State) : (holdLine s).report = s.report := rfl

@[simp] theorem holdLine_pending (s : State) : (holdLine s).pending = s.pending := rfl

@[simp] theorem holdLine_unexecuted (s : State) : (holdLine s).unexecuted = s.unexecuted := rfl

@[simp] theorem holdLine_freeCount (s : State) : (holdLine s).freeCount = s.freeCount := rfl

@[simp] theorem refreshAttention_number (s : State) : (refreshAttention s).number = s.number := rfl

@[simp] theorem refreshAttention_resetting (s : State) : (refreshAttention s).resetting = s.resetting := rfl

@[simp] theorem refreshAttention_pins (s : State) : (refreshAttention s).pins = s.pins := rfl

@[simp] theorem refreshAttention_port (s : State) : (refreshAttention s).port = s.port := rfl

@[simp] theorem refreshAttention_settings (s : State) : (refreshAttention s).settings = s.settings := rfl

@[simp] theorem refreshAttention_clock (s : State) : (refreshAttention s).clock = s.clock := rfl

@[simp] theorem refreshAttention_tie (s : State) : (refreshAttention s).tie = s.tie := rfl

@[simp] theorem refreshAttention_replica (s : State) : (refreshAttention s).replica = s.replica := rfl

@[simp] theorem refreshAttention_check (s : State) : (refreshAttention s).check = s.check := rfl

@[simp] theorem refreshAttention_membership (s : State) : (refreshAttention s).membership = s.membership := rfl

@[simp] theorem refreshAttention_outlets (s : State) : (refreshAttention s).outlets = s.outlets := rfl

@[simp] theorem refreshAttention_shed (s : State) : (refreshAttention s).shed = s.shed := rfl

@[simp] theorem refreshAttention_rail (s : State) : (refreshAttention s).rail = s.rail := rfl

@[simp] theorem refreshAttention_reserve (s : State) : (refreshAttention s).reserve = s.reserve := rfl

@[simp] theorem refreshAttention_report (s : State) :
    (refreshAttention s).report = { s.report with attention := attentionOf s.report.events s.report.status s.settings.station.mask } := rfl

@[simp] theorem refreshAttention_pending (s : State) : (refreshAttention s).pending = s.pending := rfl

@[simp] theorem refreshAttention_unexecuted (s : State) : (refreshAttention s).unexecuted = s.unexecuted := rfl

@[simp] theorem refreshAttention_freeCount (s : State) : (refreshAttention s).freeCount = s.freeCount := rfl

/-- Two updates of one outlet record make one. -/
theorem setOutlet_outlets_self (o : OutletNum) (f : Outlet → Outlet) (s : State) :
    (setOutlet o f s).outlets[o] = f s.outlets[o] := by simp

/-- Another outlet's record is unchanged. -/
theorem setOutlet_outlets_other (o p : OutletNum) (f : Outlet → Outlet) (s : State) (h : o ≠ p) :
    (setOutlet o f s).outlets[p] = s.outlets[p] := by
  have h' : o.val ≠ p.val := fun e => h (Fin.ext e)
  simp [h']

end Sys2Proof.Machine
end

