-- ==== Sys2Proof/Laws/Ops.lean ====
section
/-!
SUPPORT. What the shared operations leave alone: the report unit's operations change the report alone; the queue's change
the tie interface, the drain set and due frames; a RESET of nothing else.
-/
namespace Sys2Proof.Machine

/-! ## The report unit -/

@[simp] theorem markFault_number (f : FaultName) (s : State) : (markFault f s).number = s.number := rfl

@[simp] theorem markFault_resetting (f : FaultName) (s : State) : (markFault f s).resetting = s.resetting := rfl

@[simp] theorem markFault_pins (f : FaultName) (s : State) : (markFault f s).pins = s.pins := rfl

@[simp] theorem markFault_port (f : FaultName) (s : State) : (markFault f s).port = s.port := rfl

@[simp] theorem markFault_settings (f : FaultName) (s : State) : (markFault f s).settings = s.settings := rfl

@[simp] theorem markFault_clock (f : FaultName) (s : State) : (markFault f s).clock = s.clock := rfl

@[simp] theorem markFault_tie (f : FaultName) (s : State) : (markFault f s).tie = s.tie := rfl

@[simp] theorem markFault_replica (f : FaultName) (s : State) : (markFault f s).replica = s.replica := rfl

@[simp] theorem markFault_check (f : FaultName) (s : State) : (markFault f s).check = s.check := rfl

@[simp] theorem markFault_membership (f : FaultName) (s : State) : (markFault f s).membership = s.membership := rfl

@[simp] theorem markFault_outlets (f : FaultName) (s : State) : (markFault f s).outlets = s.outlets := rfl

@[simp] theorem markFault_shed (f : FaultName) (s : State) : (markFault f s).shed = s.shed := rfl

@[simp] theorem markFault_rail (f : FaultName) (s : State) : (markFault f s).rail = s.rail := rfl

@[simp] theorem markFault_reserve (f : FaultName) (s : State) : (markFault f s).reserve = s.reserve := rfl

@[simp] theorem markFault_pending (f : FaultName) (s : State) : (markFault f s).pending = s.pending := rfl

@[simp] theorem markFault_unexecuted (f : FaultName) (s : State) : (markFault f s).unexecuted = s.unexecuted := rfl

@[simp] theorem markFault_freeCount (f : FaultName) (s : State) : (markFault f s).freeCount = s.freeCount := rfl

@[simp] theorem dropPost_number (s : State) : (dropPost s).number = s.number := rfl

@[simp] theorem dropPost_resetting (s : State) : (dropPost s).resetting = s.resetting := rfl

@[simp] theorem dropPost_pins (s : State) : (dropPost s).pins = s.pins := rfl

@[simp] theorem dropPost_port (s : State) : (dropPost s).port = s.port := rfl

@[simp] theorem dropPost_settings (s : State) : (dropPost s).settings = s.settings := rfl

@[simp] theorem dropPost_clock (s : State) : (dropPost s).clock = s.clock := rfl

@[simp] theorem dropPost_tie (s : State) : (dropPost s).tie = s.tie := rfl

@[simp] theorem dropPost_replica (s : State) : (dropPost s).replica = s.replica := rfl

@[simp] theorem dropPost_check (s : State) : (dropPost s).check = s.check := rfl

@[simp] theorem dropPost_membership (s : State) : (dropPost s).membership = s.membership := rfl

@[simp] theorem dropPost_outlets (s : State) : (dropPost s).outlets = s.outlets := rfl

@[simp] theorem dropPost_shed (s : State) : (dropPost s).shed = s.shed := rfl

@[simp] theorem dropPost_rail (s : State) : (dropPost s).rail = s.rail := rfl

@[simp] theorem dropPost_reserve (s : State) : (dropPost s).reserve = s.reserve := rfl

@[simp] theorem dropPost_pending (s : State) : (dropPost s).pending = s.pending := rfl

@[simp] theorem dropPost_unexecuted (s : State) : (dropPost s).unexecuted = s.unexecuted := rfl

@[simp] theorem dropPost_freeCount (s : State) : (dropPost s).freeCount = s.freeCount := rfl

@[simp] theorem postEvent_number (e : EventRecord) (s : State) : (postEvent e s).number = s.number := by unfold postEvent; split; rfl; split <;> rfl

@[simp] theorem postEvent_resetting (e : EventRecord) (s : State) : (postEvent e s).resetting = s.resetting := by unfold postEvent; split; rfl; split <;> rfl

@[simp] theorem postEvent_pins (e : EventRecord) (s : State) : (postEvent e s).pins = s.pins := by unfold postEvent; split; rfl; split <;> rfl

@[simp] theorem postEvent_port (e : EventRecord) (s : State) : (postEvent e s).port = s.port := by unfold postEvent; split; rfl; split <;> rfl

@[simp] theorem postEvent_settings (e : EventRecord) (s : State) : (postEvent e s).settings = s.settings := by unfold postEvent; split; rfl; split <;> rfl

@[simp] theorem postEvent_clock (e : EventRecord) (s : State) : (postEvent e s).clock = s.clock := by unfold postEvent; split; rfl; split <;> rfl

@[simp] theorem postEvent_tie (e : EventRecord) (s : State) : (postEvent e s).tie = s.tie := by unfold postEvent; split; rfl; split <;> rfl

@[simp] theorem postEvent_replica (e : EventRecord) (s : State) : (postEvent e s).replica = s.replica := by unfold postEvent; split; rfl; split <;> rfl

@[simp] theorem postEvent_check (e : EventRecord) (s : State) : (postEvent e s).check = s.check := by unfold postEvent; split; rfl; split <;> rfl

@[simp] theorem postEvent_membership (e : EventRecord) (s : State) : (postEvent e s).membership = s.membership := by unfold postEvent; split; rfl; split <;> rfl

@[simp] theorem postEvent_outlets (e : EventRecord) (s : State) : (postEvent e s).outlets = s.outlets := by unfold postEvent; split; rfl; split <;> rfl

@[simp] theorem postEvent_shed (e : EventRecord) (s : State) : (postEvent e s).shed = s.shed := by unfold postEvent; split; rfl; split <;> rfl

@[simp] theorem postEvent_rail (e : EventRecord) (s : State) : (postEvent e s).rail = s.rail := by unfold postEvent; split; rfl; split <;> rfl

@[simp] theorem postEvent_reserve (e : EventRecord) (s : State) : (postEvent e s).reserve = s.reserve := by unfold postEvent; split; rfl; split <;> rfl

@[simp] theorem postEvent_pending (e : EventRecord) (s : State) : (postEvent e s).pending = s.pending := by unfold postEvent; split; rfl; split <;> rfl

@[simp] theorem postEvent_unexecuted (e : EventRecord) (s : State) : (postEvent e s).unexecuted = s.unexecuted := by unfold postEvent; split; rfl; split <;> rfl

@[simp] theorem postEvent_freeCount (e : EventRecord) (s : State) : (postEvent e s).freeCount = s.freeCount := by unfold postEvent; split; rfl; split <;> rfl

@[simp] theorem recordFault_number (f : FaultName) (s : State) : (recordFault f s).number = s.number := by unfold recordFault; split <;> simp

@[simp] theorem recordFault_resetting (f : FaultName) (s : State) : (recordFault f s).resetting = s.resetting := by unfold recordFault; split <;> simp

@[simp] theorem recordFault_pins (f : FaultName) (s : State) : (recordFault f s).pins = s.pins := by unfold recordFault; split <;> simp

@[simp] theorem recordFault_port (f : FaultName) (s : State) : (recordFault f s).port = s.port := by unfold recordFault; split <;> simp

@[simp] theorem recordFault_settings (f : FaultName) (s : State) : (recordFault f s).settings = s.settings := by unfold recordFault; split <;> simp

@[simp] theorem recordFault_clock (f : FaultName) (s : State) : (recordFault f s).clock = s.clock := by unfold recordFault; split <;> simp

@[simp] theorem recordFault_tie (f : FaultName) (s : State) : (recordFault f s).tie = s.tie := by unfold recordFault; split <;> simp

@[simp] theorem recordFault_replica (f : FaultName) (s : State) : (recordFault f s).replica = s.replica := by unfold recordFault; split <;> simp

@[simp] theorem recordFault_check (f : FaultName) (s : State) : (recordFault f s).check = s.check := by unfold recordFault; split <;> simp

@[simp] theorem recordFault_membership (f : FaultName) (s : State) : (recordFault f s).membership = s.membership := by unfold recordFault; split <;> simp

@[simp] theorem recordFault_outlets (f : FaultName) (s : State) : (recordFault f s).outlets = s.outlets := by unfold recordFault; split <;> simp

@[simp] theorem recordFault_shed (f : FaultName) (s : State) : (recordFault f s).shed = s.shed := by unfold recordFault; split <;> simp

@[simp] theorem recordFault_rail (f : FaultName) (s : State) : (recordFault f s).rail = s.rail := by unfold recordFault; split <;> simp

@[simp] theorem recordFault_reserve (f : FaultName) (s : State) : (recordFault f s).reserve = s.reserve := by unfold recordFault; split <;> simp

@[simp] theorem recordFault_pending (f : FaultName) (s : State) : (recordFault f s).pending = s.pending := by unfold recordFault; split <;> simp

@[simp] theorem recordFault_unexecuted (f : FaultName) (s : State) : (recordFault f s).unexecuted = s.unexecuted := by unfold recordFault; split <;> simp

@[simp] theorem recordFault_freeCount (f : FaultName) (s : State) : (recordFault f s).freeCount = s.freeCount := by unfold recordFault; split <;> simp

@[simp] theorem recordWhen_number (c : Bool) (f : FaultName) (s : State) : (recordWhen c f s).number = s.number := by unfold recordWhen; split <;> simp

@[simp] theorem recordWhen_resetting (c : Bool) (f : FaultName) (s : State) : (recordWhen c f s).resetting = s.resetting := by unfold recordWhen; split <;> simp

@[simp] theorem recordWhen_pins (c : Bool) (f : FaultName) (s : State) : (recordWhen c f s).pins = s.pins := by unfold recordWhen; split <;> simp

@[simp] theorem recordWhen_port (c : Bool) (f : FaultName) (s : State) : (recordWhen c f s).port = s.port := by unfold recordWhen; split <;> simp

@[simp] theorem recordWhen_settings (c : Bool) (f : FaultName) (s : State) : (recordWhen c f s).settings = s.settings := by unfold recordWhen; split <;> simp

@[simp] theorem recordWhen_clock (c : Bool) (f : FaultName) (s : State) : (recordWhen c f s).clock = s.clock := by unfold recordWhen; split <;> simp

@[simp] theorem recordWhen_tie (c : Bool) (f : FaultName) (s : State) : (recordWhen c f s).tie = s.tie := by unfold recordWhen; split <;> simp

@[simp] theorem recordWhen_replica (c : Bool) (f : FaultName) (s : State) : (recordWhen c f s).replica = s.replica := by unfold recordWhen; split <;> simp

@[simp] theorem recordWhen_check (c : Bool) (f : FaultName) (s : State) : (recordWhen c f s).check = s.check := by unfold recordWhen; split <;> simp

@[simp] theorem recordWhen_membership (c : Bool) (f : FaultName) (s : State) : (recordWhen c f s).membership = s.membership := by unfold recordWhen; split <;> simp

@[simp] theorem recordWhen_outlets (c : Bool) (f : FaultName) (s : State) : (recordWhen c f s).outlets = s.outlets := by unfold recordWhen; split <;> simp

@[simp] theorem recordWhen_shed (c : Bool) (f : FaultName) (s : State) : (recordWhen c f s).shed = s.shed := by unfold recordWhen; split <;> simp

@[simp] theorem recordWhen_rail (c : Bool) (f : FaultName) (s : State) : (recordWhen c f s).rail = s.rail := by unfold recordWhen; split <;> simp

@[simp] theorem recordWhen_reserve (c : Bool) (f : FaultName) (s : State) : (recordWhen c f s).reserve = s.reserve := by unfold recordWhen; split <;> simp

@[simp] theorem recordWhen_pending (c : Bool) (f : FaultName) (s : State) : (recordWhen c f s).pending = s.pending := by unfold recordWhen; split <;> simp

@[simp] theorem recordWhen_unexecuted (c : Bool) (f : FaultName) (s : State) : (recordWhen c f s).unexecuted = s.unexecuted := by unfold recordWhen; split <;> simp

@[simp] theorem recordWhen_freeCount (c : Bool) (f : FaultName) (s : State) : (recordWhen c f s).freeCount = s.freeCount := by unfold recordWhen; split <;> simp

@[simp] theorem clearFaults_number (set : Half) (s : State) : (clearFaults set s).number = s.number := rfl

@[simp] theorem clearFaults_resetting (set : Half) (s : State) : (clearFaults set s).resetting = s.resetting := rfl

@[simp] theorem clearFaults_pins (set : Half) (s : State) : (clearFaults set s).pins = s.pins := rfl

@[simp] theorem clearFaults_port (set : Half) (s : State) : (clearFaults set s).port = s.port := rfl

@[simp] theorem clearFaults_settings (set : Half) (s : State) : (clearFaults set s).settings = s.settings := rfl

@[simp] theorem clearFaults_clock (set : Half) (s : State) : (clearFaults set s).clock = s.clock := rfl

@[simp] theorem clearFaults_tie (set : Half) (s : State) : (clearFaults set s).tie = s.tie := rfl

@[simp] theorem clearFaults_replica (set : Half) (s : State) : (clearFaults set s).replica = s.replica := rfl

@[simp] theorem clearFaults_check (set : Half) (s : State) : (clearFaults set s).check = s.check := rfl

@[simp] theorem clearFaults_membership (set : Half) (s : State) : (clearFaults set s).membership = s.membership := rfl

@[simp] theorem clearFaults_outlets (set : Half) (s : State) : (clearFaults set s).outlets = s.outlets := rfl

@[simp] theorem clearFaults_shed (set : Half) (s : State) : (clearFaults set s).shed = s.shed := rfl

@[simp] theorem clearFaults_rail (set : Half) (s : State) : (clearFaults set s).rail = s.rail := rfl

@[simp] theorem clearFaults_reserve (set : Half) (s : State) : (clearFaults set s).reserve = s.reserve := rfl

@[simp] theorem clearFaults_pending (set : Half) (s : State) : (clearFaults set s).pending = s.pending := rfl

@[simp] theorem clearFaults_unexecuted (set : Half) (s : State) : (clearFaults set s).unexecuted = s.unexecuted := rfl

@[simp] theorem clearFaults_freeCount (set : Half) (s : State) : (clearFaults set s).freeCount = s.freeCount := rfl

@[simp] theorem takeEvent_number (s : State) : (takeEvent s).number = s.number := rfl

@[simp] theorem takeEvent_resetting (s : State) : (takeEvent s).resetting = s.resetting := rfl

@[simp] theorem takeEvent_pins (s : State) : (takeEvent s).pins = s.pins := rfl

@[simp] theorem takeEvent_port (s : State) : (takeEvent s).port = s.port := rfl

@[simp] theorem takeEvent_settings (s : State) : (takeEvent s).settings = s.settings := rfl

@[simp] theorem takeEvent_clock (s : State) : (takeEvent s).clock = s.clock := rfl

@[simp] theorem takeEvent_tie (s : State) : (takeEvent s).tie = s.tie := rfl

@[simp] theorem takeEvent_replica (s : State) : (takeEvent s).replica = s.replica := rfl

@[simp] theorem takeEvent_check (s : State) : (takeEvent s).check = s.check := rfl

@[simp] theorem takeEvent_membership (s : State) : (takeEvent s).membership = s.membership := rfl

@[simp] theorem takeEvent_outlets (s : State) : (takeEvent s).outlets = s.outlets := rfl

@[simp] theorem takeEvent_shed (s : State) : (takeEvent s).shed = s.shed := rfl

@[simp] theorem takeEvent_rail (s : State) : (takeEvent s).rail = s.rail := rfl

@[simp] theorem takeEvent_reserve (s : State) : (takeEvent s).reserve = s.reserve := rfl

@[simp] theorem takeEvent_pending (s : State) : (takeEvent s).pending = s.pending := rfl

@[simp] theorem takeEvent_unexecuted (s : State) : (takeEvent s).unexecuted = s.unexecuted := rfl

@[simp] theorem takeEvent_freeCount (s : State) : (takeEvent s).freeCount = s.freeCount := rfl

/-! ## One outlet -/

@[simp] theorem outletEvent_number (o : OutletNum) (c : OutletCause) (s : State) : (outletEvent o c s).number = s.number := by simp [outletEvent]

@[simp] theorem outletEvent_resetting (o : OutletNum) (c : OutletCause) (s : State) : (outletEvent o c s).resetting = s.resetting := by simp [outletEvent]

@[simp] theorem outletEvent_pins (o : OutletNum) (c : OutletCause) (s : State) : (outletEvent o c s).pins = s.pins := by simp [outletEvent]

@[simp] theorem outletEvent_port (o : OutletNum) (c : OutletCause) (s : State) : (outletEvent o c s).port = s.port := by simp [outletEvent]

@[simp] theorem outletEvent_settings (o : OutletNum) (c : OutletCause) (s : State) : (outletEvent o c s).settings = s.settings := by simp [outletEvent]

@[simp] theorem outletEvent_clock (o : OutletNum) (c : OutletCause) (s : State) : (outletEvent o c s).clock = s.clock := by simp [outletEvent]

@[simp] theorem outletEvent_tie (o : OutletNum) (c : OutletCause) (s : State) : (outletEvent o c s).tie = s.tie := by simp [outletEvent]

@[simp] theorem outletEvent_replica (o : OutletNum) (c : OutletCause) (s : State) : (outletEvent o c s).replica = s.replica := by simp [outletEvent]

@[simp] theorem outletEvent_check (o : OutletNum) (c : OutletCause) (s : State) : (outletEvent o c s).check = s.check := by simp [outletEvent]

@[simp] theorem outletEvent_membership (o : OutletNum) (c : OutletCause) (s : State) : (outletEvent o c s).membership = s.membership := by simp [outletEvent]

@[simp] theorem outletEvent_outlets (o : OutletNum) (c : OutletCause) (s : State) : (outletEvent o c s).outlets = s.outlets := by simp [outletEvent]

@[simp] theorem outletEvent_shed (o : OutletNum) (c : OutletCause) (s : State) : (outletEvent o c s).shed = s.shed := by simp [outletEvent]

@[simp] theorem outletEvent_rail (o : OutletNum) (c : OutletCause) (s : State) : (outletEvent o c s).rail = s.rail := by simp [outletEvent]

@[simp] theorem outletEvent_reserve (o : OutletNum) (c : OutletCause) (s : State) : (outletEvent o c s).reserve = s.reserve := by simp [outletEvent]

@[simp] theorem outletEvent_pending (o : OutletNum) (c : OutletCause) (s : State) : (outletEvent o c s).pending = s.pending := by simp [outletEvent]

@[simp] theorem outletEvent_unexecuted (o : OutletNum) (c : OutletCause) (s : State) : (outletEvent o c s).unexecuted = s.unexecuted := by simp [outletEvent]

@[simp] theorem outletEvent_freeCount (o : OutletNum) (c : OutletCause) (s : State) : (outletEvent o c s).freeCount = s.freeCount := by simp [outletEvent]

@[simp] theorem enterOutlet_number (st : OutletState) (c : OutletCause) (o : OutletNum) (s : State) : (enterOutlet st c o s).number = s.number := by unfold enterOutlet; split <;> simp

@[simp] theorem enterOutlet_resetting (st : OutletState) (c : OutletCause) (o : OutletNum) (s : State) : (enterOutlet st c o s).resetting = s.resetting := by unfold enterOutlet; split <;> simp

@[simp] theorem enterOutlet_pins (st : OutletState) (c : OutletCause) (o : OutletNum) (s : State) : (enterOutlet st c o s).pins = s.pins := by unfold enterOutlet; split <;> simp

@[simp] theorem enterOutlet_port (st : OutletState) (c : OutletCause) (o : OutletNum) (s : State) : (enterOutlet st c o s).port = s.port := by unfold enterOutlet; split <;> simp

@[simp] theorem enterOutlet_settings (st : OutletState) (c : OutletCause) (o : OutletNum) (s : State) : (enterOutlet st c o s).settings = s.settings := by unfold enterOutlet; split <;> simp

@[simp] theorem enterOutlet_clock (st : OutletState) (c : OutletCause) (o : OutletNum) (s : State) : (enterOutlet st c o s).clock = s.clock := by unfold enterOutlet; split <;> simp

@[simp] theorem enterOutlet_tie (st : OutletState) (c : OutletCause) (o : OutletNum) (s : State) : (enterOutlet st c o s).tie = s.tie := by unfold enterOutlet; split <;> simp

@[simp] theorem enterOutlet_replica (st : OutletState) (c : OutletCause) (o : OutletNum) (s : State) : (enterOutlet st c o s).replica = s.replica := by unfold enterOutlet; split <;> simp

@[simp] theorem enterOutlet_check (st : OutletState) (c : OutletCause) (o : OutletNum) (s : State) : (enterOutlet st c o s).check = s.check := by unfold enterOutlet; split <;> simp

@[simp] theorem enterOutlet_membership (st : OutletState) (c : OutletCause) (o : OutletNum) (s : State) : (enterOutlet st c o s).membership = s.membership := by unfold enterOutlet; split <;> simp

@[simp] theorem enterOutlet_shed (st : OutletState) (c : OutletCause) (o : OutletNum) (s : State) : (enterOutlet st c o s).shed = s.shed := by unfold enterOutlet; split <;> simp

@[simp] theorem enterOutlet_rail (st : OutletState) (c : OutletCause) (o : OutletNum) (s : State) : (enterOutlet st c o s).rail = s.rail := by unfold enterOutlet; split <;> simp

@[simp] theorem enterOutlet_reserve (st : OutletState) (c : OutletCause) (o : OutletNum) (s : State) : (enterOutlet st c o s).reserve = s.reserve := by unfold enterOutlet; split <;> simp

@[simp] theorem enterOutlet_pending (st : OutletState) (c : OutletCause) (o : OutletNum) (s : State) : (enterOutlet st c o s).pending = s.pending := by unfold enterOutlet; split <;> simp

@[simp] theorem enterOutlet_unexecuted (st : OutletState) (c : OutletCause) (o : OutletNum) (s : State) : (enterOutlet st c o s).unexecuted = s.unexecuted := by unfold enterOutlet; split <;> simp

@[simp] theorem enterOutlet_freeCount (st : OutletState) (c : OutletCause) (o : OutletNum) (s : State) : (enterOutlet st c o s).freeCount = s.freeCount := by unfold enterOutlet; split <;> simp

@[simp] theorem openSwitches_number (o : OutletNum) (s : State) : (openSwitches o s).number = s.number := rfl

@[simp] theorem openSwitches_resetting (o : OutletNum) (s : State) : (openSwitches o s).resetting = s.resetting := rfl

@[simp] theorem openSwitches_pins (o : OutletNum) (s : State) : (openSwitches o s).pins = s.pins := rfl

@[simp] theorem openSwitches_port (o : OutletNum) (s : State) : (openSwitches o s).port = s.port := rfl

@[simp] theorem openSwitches_settings (o : OutletNum) (s : State) : (openSwitches o s).settings = s.settings := rfl

@[simp] theorem openSwitches_clock (o : OutletNum) (s : State) : (openSwitches o s).clock = s.clock := rfl

@[simp] theorem openSwitches_tie (o : OutletNum) (s : State) : (openSwitches o s).tie = s.tie := rfl

@[simp] theorem openSwitches_replica (o : OutletNum) (s : State) : (openSwitches o s).replica = s.replica := rfl

@[simp] theorem openSwitches_check (o : OutletNum) (s : State) : (openSwitches o s).check = s.check := rfl

@[simp] theorem openSwitches_membership (o : OutletNum) (s : State) : (openSwitches o s).membership = s.membership := rfl

@[simp] theorem openSwitches_shed (o : OutletNum) (s : State) : (openSwitches o s).shed = s.shed := rfl

@[simp] theorem openSwitches_rail (o : OutletNum) (s : State) : (openSwitches o s).rail = s.rail := rfl

@[simp] theorem openSwitches_reserve (o : OutletNum) (s : State) : (openSwitches o s).reserve = s.reserve := rfl

@[simp] theorem openSwitches_report (o : OutletNum) (s : State) : (openSwitches o s).report = s.report := rfl

@[simp] theorem openSwitches_pending (o : OutletNum) (s : State) : (openSwitches o s).pending = s.pending := rfl

@[simp] theorem openSwitches_unexecuted (o : OutletNum) (s : State) : (openSwitches o s).unexecuted = s.unexecuted := rfl

@[simp] theorem openSwitches_freeCount (o : OutletNum) (s : State) : (openSwitches o s).freeCount = s.freeCount := rfl

@[simp] theorem openReserve_number (o : OutletNum) (s : State) : (openReserve o s).number = s.number := rfl

@[simp] theorem openReserve_resetting (o : OutletNum) (s : State) : (openReserve o s).resetting = s.resetting := rfl

@[simp] theorem openReserve_pins (o : OutletNum) (s : State) : (openReserve o s).pins = s.pins := rfl

@[simp] theorem openReserve_port (o : OutletNum) (s : State) : (openReserve o s).port = s.port := rfl

@[simp] theorem openReserve_settings (o : OutletNum) (s : State) : (openReserve o s).settings = s.settings := rfl

@[simp] theorem openReserve_clock (o : OutletNum) (s : State) : (openReserve o s).clock = s.clock := rfl

@[simp] theorem openReserve_tie (o : OutletNum) (s : State) : (openReserve o s).tie = s.tie := rfl

@[simp] theorem openReserve_replica (o : OutletNum) (s : State) : (openReserve o s).replica = s.replica := rfl

@[simp] theorem openReserve_check (o : OutletNum) (s : State) : (openReserve o s).check = s.check := rfl

@[simp] theorem openReserve_membership (o : OutletNum) (s : State) : (openReserve o s).membership = s.membership := rfl

@[simp] theorem openReserve_shed (o : OutletNum) (s : State) : (openReserve o s).shed = s.shed := rfl

@[simp] theorem openReserve_rail (o : OutletNum) (s : State) : (openReserve o s).rail = s.rail := rfl

@[simp] theorem openReserve_reserve (o : OutletNum) (s : State) : (openReserve o s).reserve = s.reserve := rfl

@[simp] theorem openReserve_report (o : OutletNum) (s : State) : (openReserve o s).report = s.report := rfl

@[simp] theorem openReserve_pending (o : OutletNum) (s : State) : (openReserve o s).pending = s.pending := rfl

@[simp] theorem openReserve_unexecuted (o : OutletNum) (s : State) : (openReserve o s).unexecuted = s.unexecuted := rfl

@[simp] theorem openReserve_freeCount (o : OutletNum) (s : State) : (openReserve o s).freeCount = s.freeCount := rfl

@[simp] theorem recordStanding_number (st : Standing) (o : OutletNum) (s : State) : (recordStanding st o s).number = s.number := rfl

@[simp] theorem recordStanding_resetting (st : Standing) (o : OutletNum) (s : State) : (recordStanding st o s).resetting = s.resetting := rfl

@[simp] theorem recordStanding_pins (st : Standing) (o : OutletNum) (s : State) : (recordStanding st o s).pins = s.pins := rfl

@[simp] theorem recordStanding_port (st : Standing) (o : OutletNum) (s : State) : (recordStanding st o s).port = s.port := rfl

@[simp] theorem recordStanding_settings (st : Standing) (o : OutletNum) (s : State) : (recordStanding st o s).settings = s.settings := rfl

@[simp] theorem recordStanding_clock (st : Standing) (o : OutletNum) (s : State) : (recordStanding st o s).clock = s.clock := rfl

@[simp] theorem recordStanding_tie (st : Standing) (o : OutletNum) (s : State) : (recordStanding st o s).tie = s.tie := rfl

@[simp] theorem recordStanding_replica (st : Standing) (o : OutletNum) (s : State) : (recordStanding st o s).replica = s.replica := rfl

@[simp] theorem recordStanding_check (st : Standing) (o : OutletNum) (s : State) : (recordStanding st o s).check = s.check := rfl

@[simp] theorem recordStanding_membership (st : Standing) (o : OutletNum) (s : State) : (recordStanding st o s).membership = s.membership := rfl

@[simp] theorem recordStanding_shed (st : Standing) (o : OutletNum) (s : State) : (recordStanding st o s).shed = s.shed := rfl

@[simp] theorem recordStanding_rail (st : Standing) (o : OutletNum) (s : State) : (recordStanding st o s).rail = s.rail := rfl

@[simp] theorem recordStanding_reserve (st : Standing) (o : OutletNum) (s : State) : (recordStanding st o s).reserve = s.reserve := rfl

@[simp] theorem recordStanding_report (st : Standing) (o : OutletNum) (s : State) : (recordStanding st o s).report = s.report := rfl

@[simp] theorem recordStanding_pending (st : Standing) (o : OutletNum) (s : State) : (recordStanding st o s).pending = s.pending := rfl

@[simp] theorem recordStanding_unexecuted (st : Standing) (o : OutletNum) (s : State) : (recordStanding st o s).unexecuted = s.unexecuted := rfl

@[simp] theorem recordStanding_freeCount (st : Standing) (o : OutletNum) (s : State) : (recordStanding st o s).freeCount = s.freeCount := rfl

/-! ## The send queue -/

@[simp] theorem post_number (i : QueueItem) (s : State) : (post i s).number = s.number := by unfold post; split <;> rfl

@[simp] theorem post_resetting (i : QueueItem) (s : State) : (post i s).resetting = s.resetting := by unfold post; split <;> rfl

@[simp] theorem post_pins (i : QueueItem) (s : State) : (post i s).pins = s.pins := by unfold post; split <;> rfl

@[simp] theorem post_port (i : QueueItem) (s : State) : (post i s).port = s.port := by unfold post; split <;> rfl

@[simp] theorem post_settings (i : QueueItem) (s : State) : (post i s).settings = s.settings := by unfold post; split <;> rfl

@[simp] theorem post_clock (i : QueueItem) (s : State) : (post i s).clock = s.clock := by unfold post; split <;> rfl

@[simp] theorem post_replica (i : QueueItem) (s : State) : (post i s).replica = s.replica := by unfold post; split <;> rfl

@[simp] theorem post_check (i : QueueItem) (s : State) : (post i s).check = s.check := by unfold post; split <;> rfl

@[simp] theorem post_membership (i : QueueItem) (s : State) : (post i s).membership = s.membership := by unfold post; split <;> rfl

@[simp] theorem post_outlets (i : QueueItem) (s : State) : (post i s).outlets = s.outlets := by unfold post; split <;> rfl

@[simp] theorem post_shed (i : QueueItem) (s : State) : (post i s).shed = s.shed := by unfold post; split <;> rfl

@[simp] theorem post_rail (i : QueueItem) (s : State) : (post i s).rail = s.rail := by unfold post; split <;> rfl

@[simp] theorem post_reserve (i : QueueItem) (s : State) : (post i s).reserve = s.reserve := by unfold post; split <;> rfl

@[simp] theorem post_report (i : QueueItem) (s : State) : (post i s).report = s.report := by unfold post; split <;> rfl

@[simp] theorem post_pending (i : QueueItem) (s : State) : (post i s).pending = s.pending := by unfold post; split <;> rfl

@[simp] theorem post_unexecuted (i : QueueItem) (s : State) : (post i s).unexecuted = s.unexecuted := by unfold post; split <;> rfl

@[simp] theorem post_freeCount (i : QueueItem) (s : State) : (post i s).freeCount = s.freeCount := by unfold post; split <;> rfl

@[simp] theorem markFlight_number (c : QueueItem → Bool) (s : State) : (markFlight c s).number = s.number := rfl

@[simp] theorem markFlight_resetting (c : QueueItem → Bool) (s : State) : (markFlight c s).resetting = s.resetting := rfl

@[simp] theorem markFlight_pins (c : QueueItem → Bool) (s : State) : (markFlight c s).pins = s.pins := rfl

@[simp] theorem markFlight_port (c : QueueItem → Bool) (s : State) : (markFlight c s).port = s.port := rfl

@[simp] theorem markFlight_settings (c : QueueItem → Bool) (s : State) : (markFlight c s).settings = s.settings := rfl

@[simp] theorem markFlight_clock (c : QueueItem → Bool) (s : State) : (markFlight c s).clock = s.clock := rfl

@[simp] theorem markFlight_replica (c : QueueItem → Bool) (s : State) : (markFlight c s).replica = s.replica := rfl

@[simp] theorem markFlight_check (c : QueueItem → Bool) (s : State) : (markFlight c s).check = s.check := rfl

@[simp] theorem markFlight_membership (c : QueueItem → Bool) (s : State) : (markFlight c s).membership = s.membership := rfl

@[simp] theorem markFlight_outlets (c : QueueItem → Bool) (s : State) : (markFlight c s).outlets = s.outlets := rfl

@[simp] theorem markFlight_shed (c : QueueItem → Bool) (s : State) : (markFlight c s).shed = s.shed := rfl

@[simp] theorem markFlight_rail (c : QueueItem → Bool) (s : State) : (markFlight c s).rail = s.rail := rfl

@[simp] theorem markFlight_reserve (c : QueueItem → Bool) (s : State) : (markFlight c s).reserve = s.reserve := rfl

@[simp] theorem markFlight_report (c : QueueItem → Bool) (s : State) : (markFlight c s).report = s.report := rfl

@[simp] theorem markFlight_pending (c : QueueItem → Bool) (s : State) : (markFlight c s).pending = s.pending := rfl

@[simp] theorem markFlight_unexecuted (c : QueueItem → Bool) (s : State) : (markFlight c s).unexecuted = s.unexecuted := rfl

@[simp] theorem markFlight_freeCount (c : QueueItem → Bool) (s : State) : (markFlight c s).freeCount = s.freeCount := rfl

@[simp] theorem postDue_number (o : OutletNum) (s : State) : (postDue o s).number = s.number := by unfold postDue; split; split <;> simp; rfl

@[simp] theorem postDue_resetting (o : OutletNum) (s : State) : (postDue o s).resetting = s.resetting := by unfold postDue; split; split <;> simp; rfl

@[simp] theorem postDue_pins (o : OutletNum) (s : State) : (postDue o s).pins = s.pins := by unfold postDue; split; split <;> simp; rfl

@[simp] theorem postDue_port (o : OutletNum) (s : State) : (postDue o s).port = s.port := by unfold postDue; split; split <;> simp; rfl

@[simp] theorem postDue_settings (o : OutletNum) (s : State) : (postDue o s).settings = s.settings := by unfold postDue; split; split <;> simp; rfl

@[simp] theorem postDue_clock (o : OutletNum) (s : State) : (postDue o s).clock = s.clock := by unfold postDue; split; split <;> simp; rfl

@[simp] theorem postDue_replica (o : OutletNum) (s : State) : (postDue o s).replica = s.replica := by unfold postDue; split; split <;> simp; rfl

@[simp] theorem postDue_check (o : OutletNum) (s : State) : (postDue o s).check = s.check := by unfold postDue; split; split <;> simp; rfl

@[simp] theorem postDue_membership (o : OutletNum) (s : State) : (postDue o s).membership = s.membership := by unfold postDue; split; split <;> simp; rfl

@[simp] theorem postDue_shed (o : OutletNum) (s : State) : (postDue o s).shed = s.shed := by unfold postDue; split; split <;> simp; rfl

@[simp] theorem postDue_rail (o : OutletNum) (s : State) : (postDue o s).rail = s.rail := by unfold postDue; split; split <;> simp; rfl

@[simp] theorem postDue_reserve (o : OutletNum) (s : State) : (postDue o s).reserve = s.reserve := by unfold postDue; split; split <;> simp; rfl

@[simp] theorem postDue_report (o : OutletNum) (s : State) : (postDue o s).report = s.report := by unfold postDue; split; split <;> simp; rfl

@[simp] theorem postDue_pending (o : OutletNum) (s : State) : (postDue o s).pending = s.pending := by unfold postDue; split; split <;> simp; rfl

@[simp] theorem postDue_unexecuted (o : OutletNum) (s : State) : (postDue o s).unexecuted = s.unexecuted := by unfold postDue; split; split <;> simp; rfl

@[simp] theorem postDue_freeCount (o : OutletNum) (s : State) : (postDue o s).freeCount = s.freeCount := by unfold postDue; split; split <;> simp; rfl

/-- A treatment of every outlet keeps what each single one keeps. -/
theorem forOutlets_keeps {α : Type} (g : State → α) (f : OutletNum → State → State)
    (h : ∀ o s, g (f o s) = g s) (s : State) : g (forOutlets f s) = g s := by
  unfold forOutlets
  generalize allOutlets = l
  induction l generalizing s with
  | nil => rfl
  | cons o l ih => simp only [List.foldl_cons]; rw [ih, h]

/-- A treatment of every station number keeps what each single one keeps. -/
theorem forStations_keeps {α : Type} (g : State → α) (f : StationNum → State → State)
    (h : ∀ n s, g (f n s) = g s) (s : State) : g (forStations f s) = g s := by
  unfold forStations
  generalize allStations = l
  induction l generalizing s with
  | nil => rfl
  | cons o l ih => simp only [List.foldl_cons]; rw [ih, h]

@[simp] theorem leaveQueue_number (gone : Posted → Bool) (s : State) : (leaveQueue gone s).number = s.number := by
  unfold leaveQueue; rw [forOutlets_keeps (·.number) postDue (fun o t => by simp)]

@[simp] theorem clearDue_number (c : OutletNum → DueFrame → Bool) (s : State) : (clearDue c s).number = s.number := by
  unfold clearDue; rw [forOutlets_keeps (·.number) _ (fun o t => by simp)]

@[simp] theorem leaveQueue_resetting (gone : Posted → Bool) (s : State) : (leaveQueue gone s).resetting = s.resetting := by
  unfold leaveQueue; rw [forOutlets_keeps (·.resetting) postDue (fun o t => by simp)]

@[simp] theorem clearDue_resetting (c : OutletNum → DueFrame → Bool) (s : State) : (clearDue c s).resetting = s.resetting := by
  unfold clearDue; rw [forOutlets_keeps (·.resetting) _ (fun o t => by simp)]

@[simp] theorem leaveQueue_pins (gone : Posted → Bool) (s : State) : (leaveQueue gone s).pins = s.pins := by
  unfold leaveQueue; rw [forOutlets_keeps (·.pins) postDue (fun o t => by simp)]

@[simp] theorem clearDue_pins (c : OutletNum → DueFrame → Bool) (s : State) : (clearDue c s).pins = s.pins := by
  unfold clearDue; rw [forOutlets_keeps (·.pins) _ (fun o t => by simp)]

@[simp] theorem leaveQueue_settings (gone : Posted → Bool) (s : State) : (leaveQueue gone s).settings = s.settings := by
  unfold leaveQueue; rw [forOutlets_keeps (·.settings) postDue (fun o t => by simp)]

@[simp] theorem clearDue_settings (c : OutletNum → DueFrame → Bool) (s : State) : (clearDue c s).settings = s.settings := by
  unfold clearDue; rw [forOutlets_keeps (·.settings) _ (fun o t => by simp)]

@[simp] theorem leaveQueue_clock (gone : Posted → Bool) (s : State) : (leaveQueue gone s).clock = s.clock := by
  unfold leaveQueue; rw [forOutlets_keeps (·.clock) postDue (fun o t => by simp)]

@[simp] theorem clearDue_clock (c : OutletNum → DueFrame → Bool) (s : State) : (clearDue c s).clock = s.clock := by
  unfold clearDue; rw [forOutlets_keeps (·.clock) _ (fun o t => by simp)]

@[simp] theorem leaveQueue_replica (gone : Posted → Bool) (s : State) : (leaveQueue gone s).replica = s.replica := by
  unfold leaveQueue; rw [forOutlets_keeps (·.replica) postDue (fun o t => by simp)]

@[simp] theorem clearDue_replica (c : OutletNum → DueFrame → Bool) (s : State) : (clearDue c s).replica = s.replica := by
  unfold clearDue; rw [forOutlets_keeps (·.replica) _ (fun o t => by simp)]

@[simp] theorem leaveQueue_check (gone : Posted → Bool) (s : State) : (leaveQueue gone s).check = s.check := by
  unfold leaveQueue; rw [forOutlets_keeps (·.check) postDue (fun o t => by simp)]

@[simp] theorem clearDue_check (c : OutletNum → DueFrame → Bool) (s : State) : (clearDue c s).check = s.check := by
  unfold clearDue; rw [forOutlets_keeps (·.check) _ (fun o t => by simp)]

@[simp] theorem leaveQueue_membership (gone : Posted → Bool) (s : State) : (leaveQueue gone s).membership = s.membership := by
  unfold leaveQueue; rw [forOutlets_keeps (·.membership) postDue (fun o t => by simp)]

@[simp] theorem clearDue_membership (c : OutletNum → DueFrame → Bool) (s : State) : (clearDue c s).membership = s.membership := by
  unfold clearDue; rw [forOutlets_keeps (·.membership) _ (fun o t => by simp)]

@[simp] theorem leaveQueue_shed (gone : Posted → Bool) (s : State) : (leaveQueue gone s).shed = s.shed := by
  unfold leaveQueue; rw [forOutlets_keeps (·.shed) postDue (fun o t => by simp)]

@[simp] theorem clearDue_shed (c : OutletNum → DueFrame → Bool) (s : State) : (clearDue c s).shed = s.shed := by
  unfold clearDue; rw [forOutlets_keeps (·.shed) _ (fun o t => by simp)]

@[simp] theorem leaveQueue_rail (gone : Posted → Bool) (s : State) : (leaveQueue gone s).rail = s.rail := by
  unfold leaveQueue; rw [forOutlets_keeps (·.rail) postDue (fun o t => by simp)]

@[simp] theorem clearDue_rail (c : OutletNum → DueFrame → Bool) (s : State) : (clearDue c s).rail = s.rail := by
  unfold clearDue; rw [forOutlets_keeps (·.rail) _ (fun o t => by simp)]

@[simp] theorem leaveQueue_reserve (gone : Posted → Bool) (s : State) : (leaveQueue gone s).reserve = s.reserve := by
  unfold leaveQueue; rw [forOutlets_keeps (·.reserve) postDue (fun o t => by simp)]

@[simp] theorem clearDue_reserve (c : OutletNum → DueFrame → Bool) (s : State) : (clearDue c s).reserve = s.reserve := by
  unfold clearDue; rw [forOutlets_keeps (·.reserve) _ (fun o t => by simp)]

@[simp] theorem leaveQueue_report (gone : Posted → Bool) (s : State) : (leaveQueue gone s).report = s.report := by
  unfold leaveQueue; rw [forOutlets_keeps (·.report) postDue (fun o t => by simp)]

@[simp] theorem clearDue_report (c : OutletNum → DueFrame → Bool) (s : State) : (clearDue c s).report = s.report := by
  unfold clearDue; rw [forOutlets_keeps (·.report) _ (fun o t => by simp)]

@[simp] theorem leaveQueue_pending (gone : Posted → Bool) (s : State) : (leaveQueue gone s).pending = s.pending := by
  unfold leaveQueue; rw [forOutlets_keeps (·.pending) postDue (fun o t => by simp)]

@[simp] theorem leaveQueue_unexecuted (gone : Posted → Bool) (s : State) : (leaveQueue gone s).unexecuted = s.unexecuted := by
  unfold leaveQueue; rw [forOutlets_keeps (·.unexecuted) postDue (fun o t => by simp)]

@[simp] theorem clearDue_pending (c : OutletNum → DueFrame → Bool) (s : State) : (clearDue c s).pending = s.pending := by
  unfold clearDue; rw [forOutlets_keeps (·.pending) _ (fun o t => by simp)]

@[simp] theorem clearDue_unexecuted (c : OutletNum → DueFrame → Bool) (s : State) : (clearDue c s).unexecuted = s.unexecuted := by
  unfold clearDue; rw [forOutlets_keeps (·.unexecuted) _ (fun o t => by simp)]

@[simp] theorem leaveQueue_freeCount (gone : Posted → Bool) (s : State) : (leaveQueue gone s).freeCount = s.freeCount := by
  unfold leaveQueue; rw [forOutlets_keeps (·.freeCount) postDue (fun o t => by simp)]

@[simp] theorem clearDue_freeCount (c : OutletNum → DueFrame → Bool) (s : State) : (clearDue c s).freeCount = s.freeCount := by
  unfold clearDue; rw [forOutlets_keeps (·.freeCount) _ (fun o t => by simp)]

@[simp] theorem clearDue_tie (c : OutletNum → DueFrame → Bool) (s : State) : (clearDue c s).tie = s.tie := by
  unfold clearDue; rw [forOutlets_keeps (·.tie) _ (fun o t => by simp)]

@[simp] theorem clearDue_port (c : OutletNum → DueFrame → Bool) (s : State) : (clearDue c s).port = s.port := by
  unfold clearDue; rw [forOutlets_keeps (·.port) _ (fun o t => by simp)]

@[simp] theorem withdraw_number (c : QueueItem → Bool) (s : State) : (withdraw c s).number = s.number := by simp [withdraw]

@[simp] theorem withdraw_resetting (c : QueueItem → Bool) (s : State) : (withdraw c s).resetting = s.resetting := by simp [withdraw]

@[simp] theorem withdraw_pins (c : QueueItem → Bool) (s : State) : (withdraw c s).pins = s.pins := by simp [withdraw]

@[simp] theorem withdraw_settings (c : QueueItem → Bool) (s : State) : (withdraw c s).settings = s.settings := by simp [withdraw]

@[simp] theorem withdraw_clock (c : QueueItem → Bool) (s : State) : (withdraw c s).clock = s.clock := by simp [withdraw]

@[simp] theorem withdraw_replica (c : QueueItem → Bool) (s : State) : (withdraw c s).replica = s.replica := by simp [withdraw]

@[simp] theorem withdraw_check (c : QueueItem → Bool) (s : State) : (withdraw c s).check = s.check := by simp [withdraw]

@[simp] theorem withdraw_membership (c : QueueItem → Bool) (s : State) : (withdraw c s).membership = s.membership := by simp [withdraw]

@[simp] theorem withdraw_shed (c : QueueItem → Bool) (s : State) : (withdraw c s).shed = s.shed := by simp [withdraw]

@[simp] theorem withdraw_rail (c : QueueItem → Bool) (s : State) : (withdraw c s).rail = s.rail := by simp [withdraw]

@[simp] theorem withdraw_reserve (c : QueueItem → Bool) (s : State) : (withdraw c s).reserve = s.reserve := by simp [withdraw]

@[simp] theorem withdraw_report (c : QueueItem → Bool) (s : State) : (withdraw c s).report = s.report := by simp [withdraw]

@[simp] theorem withdraw_pending (c : QueueItem → Bool) (s : State) : (withdraw c s).pending = s.pending := by simp [withdraw]

@[simp] theorem withdraw_unexecuted (c : QueueItem → Bool) (s : State) : (withdraw c s).unexecuted = s.unexecuted := by simp [withdraw]

@[simp] theorem withdraw_freeCount (c : QueueItem → Bool) (s : State) : (withdraw c s).freeCount = s.freeCount := by simp [withdraw]

@[simp] theorem emptyQueue_number (s : State) : (emptyQueue s).number = s.number := by simp [emptyQueue]

@[simp] theorem emptyQueue_resetting (s : State) : (emptyQueue s).resetting = s.resetting := by simp [emptyQueue]

@[simp] theorem emptyQueue_pins (s : State) : (emptyQueue s).pins = s.pins := by simp [emptyQueue]

@[simp] theorem emptyQueue_settings (s : State) : (emptyQueue s).settings = s.settings := by simp [emptyQueue]

@[simp] theorem emptyQueue_clock (s : State) : (emptyQueue s).clock = s.clock := by simp [emptyQueue]

@[simp] theorem emptyQueue_replica (s : State) : (emptyQueue s).replica = s.replica := by simp [emptyQueue]

@[simp] theorem emptyQueue_check (s : State) : (emptyQueue s).check = s.check := by simp [emptyQueue]

@[simp] theorem emptyQueue_membership (s : State) : (emptyQueue s).membership = s.membership := by simp [emptyQueue]

@[simp] theorem emptyQueue_shed (s : State) : (emptyQueue s).shed = s.shed := by simp [emptyQueue]

@[simp] theorem emptyQueue_rail (s : State) : (emptyQueue s).rail = s.rail := by simp [emptyQueue]

@[simp] theorem emptyQueue_reserve (s : State) : (emptyQueue s).reserve = s.reserve := by simp [emptyQueue]

@[simp] theorem emptyQueue_report (s : State) : (emptyQueue s).report = s.report := by simp [emptyQueue]

@[simp] theorem emptyQueue_pending (s : State) : (emptyQueue s).pending = s.pending := by simp [emptyQueue]

@[simp] theorem emptyQueue_unexecuted (s : State) : (emptyQueue s).unexecuted = s.unexecuted := by simp [emptyQueue]

@[simp] theorem emptyQueue_freeCount (s : State) : (emptyQueue s).freeCount = s.freeCount := by simp [emptyQueue]

@[simp] theorem emptyQueueConfig_number (s : State) : (emptyQueueConfig s).number = s.number := by simp [emptyQueueConfig]

@[simp] theorem emptyQueueConfig_resetting (s : State) : (emptyQueueConfig s).resetting = s.resetting := by simp [emptyQueueConfig]

@[simp] theorem emptyQueueConfig_pins (s : State) : (emptyQueueConfig s).pins = s.pins := by simp [emptyQueueConfig]

@[simp] theorem emptyQueueConfig_settings (s : State) : (emptyQueueConfig s).settings = s.settings := by simp [emptyQueueConfig]

@[simp] theorem emptyQueueConfig_clock (s : State) : (emptyQueueConfig s).clock = s.clock := by simp [emptyQueueConfig]

@[simp] theorem emptyQueueConfig_replica (s : State) : (emptyQueueConfig s).replica = s.replica := by simp [emptyQueueConfig]

@[simp] theorem emptyQueueConfig_check (s : State) : (emptyQueueConfig s).check = s.check := by simp [emptyQueueConfig]

@[simp] theorem emptyQueueConfig_membership (s : State) : (emptyQueueConfig s).membership = s.membership := by simp [emptyQueueConfig]

@[simp] theorem emptyQueueConfig_shed (s : State) : (emptyQueueConfig s).shed = s.shed := by simp [emptyQueueConfig]

@[simp] theorem emptyQueueConfig_rail (s : State) : (emptyQueueConfig s).rail = s.rail := by simp [emptyQueueConfig]

@[simp] theorem emptyQueueConfig_reserve (s : State) : (emptyQueueConfig s).reserve = s.reserve := by simp [emptyQueueConfig]

@[simp] theorem emptyQueueConfig_report (s : State) : (emptyQueueConfig s).report = s.report := by simp [emptyQueueConfig]

@[simp] theorem emptyQueueConfig_pending (s : State) : (emptyQueueConfig s).pending = s.pending := by simp [emptyQueueConfig]

@[simp] theorem emptyQueueConfig_unexecuted (s : State) : (emptyQueueConfig s).unexecuted = s.unexecuted := by simp [emptyQueueConfig]

@[simp] theorem emptyQueueConfig_freeCount (s : State) : (emptyQueueConfig s).freeCount = s.freeCount := by simp [emptyQueueConfig]

@[simp] theorem postOrDue_number (o : OutletNum) (d : DueFrame) (s : State) : (postOrDue o d s).number = s.number := by unfold postOrDue; split <;> simp

@[simp] theorem postOrDue_resetting (o : OutletNum) (d : DueFrame) (s : State) : (postOrDue o d s).resetting = s.resetting := by unfold postOrDue; split <;> simp

@[simp] theorem postOrDue_pins (o : OutletNum) (d : DueFrame) (s : State) : (postOrDue o d s).pins = s.pins := by unfold postOrDue; split <;> simp

@[simp] theorem postOrDue_port (o : OutletNum) (d : DueFrame) (s : State) : (postOrDue o d s).port = s.port := by unfold postOrDue; split <;> simp

@[simp] theorem postOrDue_settings (o : OutletNum) (d : DueFrame) (s : State) : (postOrDue o d s).settings = s.settings := by unfold postOrDue; split <;> simp

@[simp] theorem postOrDue_clock (o : OutletNum) (d : DueFrame) (s : State) : (postOrDue o d s).clock = s.clock := by unfold postOrDue; split <;> simp

@[simp] theorem postOrDue_replica (o : OutletNum) (d : DueFrame) (s : State) : (postOrDue o d s).replica = s.replica := by unfold postOrDue; split <;> simp

@[simp] theorem postOrDue_check (o : OutletNum) (d : DueFrame) (s : State) : (postOrDue o d s).check = s.check := by unfold postOrDue; split <;> simp

@[simp] theorem postOrDue_membership (o : OutletNum) (d : DueFrame) (s : State) : (postOrDue o d s).membership = s.membership := by unfold postOrDue; split <;> simp

@[simp] theorem postOrDue_shed (o : OutletNum) (d : DueFrame) (s : State) : (postOrDue o d s).shed = s.shed := by unfold postOrDue; split <;> simp

@[simp] theorem postOrDue_rail (o : OutletNum) (d : DueFrame) (s : State) : (postOrDue o d s).rail = s.rail := by unfold postOrDue; split <;> simp

@[simp] theorem postOrDue_reserve (o : OutletNum) (d : DueFrame) (s : State) : (postOrDue o d s).reserve = s.reserve := by unfold postOrDue; split <;> simp

@[simp] theorem postOrDue_report (o : OutletNum) (d : DueFrame) (s : State) : (postOrDue o d s).report = s.report := by unfold postOrDue; split <;> simp

@[simp] theorem postOrDue_pending (o : OutletNum) (d : DueFrame) (s : State) : (postOrDue o d s).pending = s.pending := by unfold postOrDue; split <;> simp

@[simp] theorem postOrDue_unexecuted (o : OutletNum) (d : DueFrame) (s : State) : (postOrDue o d s).unexecuted = s.unexecuted := by unfold postOrDue; split <;> simp

@[simp] theorem postOrDue_freeCount (o : OutletNum) (d : DueFrame) (s : State) : (postOrDue o d s).freeCount = s.freeCount := by unfold postOrDue; split <;> simp

@[simp] theorem postCancel_number (o : OutletNum) (s : State) : (postCancel o s).number = s.number := by simp [postCancel]

@[simp] theorem postCancel_resetting (o : OutletNum) (s : State) : (postCancel o s).resetting = s.resetting := by simp [postCancel]

@[simp] theorem postCancel_pins (o : OutletNum) (s : State) : (postCancel o s).pins = s.pins := by simp [postCancel]

@[simp] theorem postCancel_port (o : OutletNum) (s : State) : (postCancel o s).port = s.port := by simp [postCancel]

@[simp] theorem postCancel_settings (o : OutletNum) (s : State) : (postCancel o s).settings = s.settings := by simp [postCancel]

@[simp] theorem postCancel_clock (o : OutletNum) (s : State) : (postCancel o s).clock = s.clock := by simp [postCancel]

@[simp] theorem postCancel_replica (o : OutletNum) (s : State) : (postCancel o s).replica = s.replica := by simp [postCancel]

@[simp] theorem postCancel_check (o : OutletNum) (s : State) : (postCancel o s).check = s.check := by simp [postCancel]

@[simp] theorem postCancel_membership (o : OutletNum) (s : State) : (postCancel o s).membership = s.membership := by simp [postCancel]

@[simp] theorem postCancel_shed (o : OutletNum) (s : State) : (postCancel o s).shed = s.shed := by simp [postCancel]

@[simp] theorem postCancel_rail (o : OutletNum) (s : State) : (postCancel o s).rail = s.rail := by simp [postCancel]

@[simp] theorem postCancel_reserve (o : OutletNum) (s : State) : (postCancel o s).reserve = s.reserve := by simp [postCancel]

@[simp] theorem postCancel_report (o : OutletNum) (s : State) : (postCancel o s).report = s.report := by simp [postCancel]

@[simp] theorem postCancel_pending (o : OutletNum) (s : State) : (postCancel o s).pending = s.pending := by simp [postCancel]

@[simp] theorem postCancel_unexecuted (o : OutletNum) (s : State) : (postCancel o s).unexecuted = s.unexecuted := by simp [postCancel]

@[simp] theorem postCancel_freeCount (o : OutletNum) (s : State) : (postCancel o s).freeCount = s.freeCount := by simp [postCancel]

@[simp] theorem postRelease_number (o : OutletNum) (s : State) : (postRelease o s).number = s.number := by simp [postRelease]

@[simp] theorem postRelease_resetting (o : OutletNum) (s : State) : (postRelease o s).resetting = s.resetting := by simp [postRelease]

@[simp] theorem postRelease_pins (o : OutletNum) (s : State) : (postRelease o s).pins = s.pins := by simp [postRelease]

@[simp] theorem postRelease_settings (o : OutletNum) (s : State) : (postRelease o s).settings = s.settings := by simp [postRelease]

@[simp] theorem postRelease_clock (o : OutletNum) (s : State) : (postRelease o s).clock = s.clock := by simp [postRelease]

@[simp] theorem postRelease_replica (o : OutletNum) (s : State) : (postRelease o s).replica = s.replica := by simp [postRelease]

@[simp] theorem postRelease_check (o : OutletNum) (s : State) : (postRelease o s).check = s.check := by simp [postRelease]

@[simp] theorem postRelease_membership (o : OutletNum) (s : State) : (postRelease o s).membership = s.membership := by simp [postRelease]

@[simp] theorem postRelease_shed (o : OutletNum) (s : State) : (postRelease o s).shed = s.shed := by simp [postRelease]

@[simp] theorem postRelease_rail (o : OutletNum) (s : State) : (postRelease o s).rail = s.rail := by simp [postRelease]

@[simp] theorem postRelease_reserve (o : OutletNum) (s : State) : (postRelease o s).reserve = s.reserve := by simp [postRelease]

@[simp] theorem postRelease_report (o : OutletNum) (s : State) : (postRelease o s).report = s.report := by simp [postRelease]

@[simp] theorem postRelease_pending (o : OutletNum) (s : State) : (postRelease o s).pending = s.pending := by simp [postRelease]

@[simp] theorem postRelease_unexecuted (o : OutletNum) (s : State) : (postRelease o s).unexecuted = s.unexecuted := by simp [postRelease]

@[simp] theorem postRelease_freeCount (o : OutletNum) (s : State) : (postRelease o s).freeCount = s.freeCount := by simp [postRelease]

@[simp] theorem postClaim_number (o : OutletNum) (s : State) : (postClaim o s).number = s.number := by simp [postClaim]

@[simp] theorem postClaim_resetting (o : OutletNum) (s : State) : (postClaim o s).resetting = s.resetting := by simp [postClaim]

@[simp] theorem postClaim_pins (o : OutletNum) (s : State) : (postClaim o s).pins = s.pins := by simp [postClaim]

@[simp] theorem postClaim_port (o : OutletNum) (s : State) : (postClaim o s).port = s.port := by simp [postClaim]

@[simp] theorem postClaim_settings (o : OutletNum) (s : State) : (postClaim o s).settings = s.settings := by simp [postClaim]

@[simp] theorem postClaim_clock (o : OutletNum) (s : State) : (postClaim o s).clock = s.clock := by simp [postClaim]

@[simp] theorem postClaim_replica (o : OutletNum) (s : State) : (postClaim o s).replica = s.replica := by simp [postClaim]

@[simp] theorem postClaim_check (o : OutletNum) (s : State) : (postClaim o s).check = s.check := by simp [postClaim]

@[simp] theorem postClaim_membership (o : OutletNum) (s : State) : (postClaim o s).membership = s.membership := by simp [postClaim]

@[simp] theorem postClaim_outlets (o : OutletNum) (s : State) : (postClaim o s).outlets = s.outlets := by simp [postClaim]

@[simp] theorem postClaim_shed (o : OutletNum) (s : State) : (postClaim o s).shed = s.shed := by simp [postClaim]

@[simp] theorem postClaim_rail (o : OutletNum) (s : State) : (postClaim o s).rail = s.rail := by simp [postClaim]

@[simp] theorem postClaim_reserve (o : OutletNum) (s : State) : (postClaim o s).reserve = s.reserve := by simp [postClaim]

@[simp] theorem postClaim_report (o : OutletNum) (s : State) : (postClaim o s).report = s.report := by simp [postClaim]

@[simp] theorem postClaim_pending (o : OutletNum) (s : State) : (postClaim o s).pending = s.pending := by simp [postClaim]

@[simp] theorem postClaim_unexecuted (o : OutletNum) (s : State) : (postClaim o s).unexecuted = s.unexecuted := by simp [postClaim]

@[simp] theorem postClaim_freeCount (o : OutletNum) (s : State) : (postClaim o s).freeCount = s.freeCount := by simp [postClaim]

@[simp] theorem giveUpClaim_number (o : OutletNum) (s : State) : (giveUpClaim o s).number = s.number := by unfold giveUpClaim; split <;> simp

@[simp] theorem giveUpClaim_resetting (o : OutletNum) (s : State) : (giveUpClaim o s).resetting = s.resetting := by unfold giveUpClaim; split <;> simp

@[simp] theorem giveUpClaim_pins (o : OutletNum) (s : State) : (giveUpClaim o s).pins = s.pins := by unfold giveUpClaim; split <;> simp

@[simp] theorem giveUpClaim_settings (o : OutletNum) (s : State) : (giveUpClaim o s).settings = s.settings := by unfold giveUpClaim; split <;> simp

@[simp] theorem giveUpClaim_clock (o : OutletNum) (s : State) : (giveUpClaim o s).clock = s.clock := by unfold giveUpClaim; split <;> simp

@[simp] theorem giveUpClaim_replica (o : OutletNum) (s : State) : (giveUpClaim o s).replica = s.replica := by unfold giveUpClaim; split <;> simp

@[simp] theorem giveUpClaim_check (o : OutletNum) (s : State) : (giveUpClaim o s).check = s.check := by unfold giveUpClaim; split <;> simp

@[simp] theorem giveUpClaim_membership (o : OutletNum) (s : State) : (giveUpClaim o s).membership = s.membership := by unfold giveUpClaim; split <;> simp

@[simp] theorem giveUpClaim_shed (o : OutletNum) (s : State) : (giveUpClaim o s).shed = s.shed := by unfold giveUpClaim; split <;> simp

@[simp] theorem giveUpClaim_rail (o : OutletNum) (s : State) : (giveUpClaim o s).rail = s.rail := by unfold giveUpClaim; split <;> simp

@[simp] theorem giveUpClaim_reserve (o : OutletNum) (s : State) : (giveUpClaim o s).reserve = s.reserve := by unfold giveUpClaim; split <;> simp

@[simp] theorem giveUpClaim_report (o : OutletNum) (s : State) : (giveUpClaim o s).report = s.report := by unfold giveUpClaim; split <;> simp

@[simp] theorem giveUpClaim_pending (o : OutletNum) (s : State) : (giveUpClaim o s).pending = s.pending := by unfold giveUpClaim; split <;> simp

@[simp] theorem giveUpClaim_unexecuted (o : OutletNum) (s : State) : (giveUpClaim o s).unexecuted = s.unexecuted := by unfold giveUpClaim; split <;> simp

@[simp] theorem giveUpClaim_freeCount (o : OutletNum) (s : State) : (giveUpClaim o s).freeCount = s.freeCount := by unfold giveUpClaim; split <;> simp

@[simp] theorem setPresence_number (p : Presence) (n : StationNum) (s : State) : (setPresence p n s).number = s.number := by
  unfold setPresence; dsimp only; split <;> simp

@[simp] theorem setPresence_resetting (p : Presence) (n : StationNum) (s : State) : (setPresence p n s).resetting = s.resetting := by
  unfold setPresence; dsimp only; split <;> simp

@[simp] theorem setPresence_pins (p : Presence) (n : StationNum) (s : State) : (setPresence p n s).pins = s.pins := by
  unfold setPresence; dsimp only; split <;> simp

@[simp] theorem setPresence_port (p : Presence) (n : StationNum) (s : State) : (setPresence p n s).port = s.port := by
  unfold setPresence; dsimp only; split <;> simp

@[simp] theorem setPresence_settings (p : Presence) (n : StationNum) (s : State) : (setPresence p n s).settings = s.settings := by
  unfold setPresence; dsimp only; split <;> simp

@[simp] theorem setPresence_clock (p : Presence) (n : StationNum) (s : State) : (setPresence p n s).clock = s.clock := by
  unfold setPresence; dsimp only; split <;> simp

@[simp] theorem setPresence_tie (p : Presence) (n : StationNum) (s : State) : (setPresence p n s).tie = s.tie := by
  unfold setPresence; dsimp only; split <;> simp

@[simp] theorem setPresence_replica (p : Presence) (n : StationNum) (s : State) : (setPresence p n s).replica = s.replica := by
  unfold setPresence; dsimp only; split <;> simp

@[simp] theorem setPresence_check (p : Presence) (n : StationNum) (s : State) : (setPresence p n s).check = s.check := by
  unfold setPresence; dsimp only; split <;> simp

@[simp] theorem setPresence_outlets (p : Presence) (n : StationNum) (s : State) : (setPresence p n s).outlets = s.outlets := by
  unfold setPresence; dsimp only; split <;> simp

@[simp] theorem setPresence_shed (p : Presence) (n : StationNum) (s : State) : (setPresence p n s).shed = s.shed := by
  unfold setPresence; dsimp only; split <;> simp

@[simp] theorem setPresence_rail (p : Presence) (n : StationNum) (s : State) : (setPresence p n s).rail = s.rail := by
  unfold setPresence; dsimp only; split <;> simp

@[simp] theorem setPresence_reserve (p : Presence) (n : StationNum) (s : State) : (setPresence p n s).reserve = s.reserve := by
  unfold setPresence; dsimp only; split <;> simp

@[simp] theorem setPresence_pending (p : Presence) (n : StationNum) (s : State) : (setPresence p n s).pending = s.pending := by
  unfold setPresence; dsimp only; split <;> simp

@[simp] theorem setPresence_unexecuted (p : Presence) (n : StationNum) (s : State) : (setPresence p n s).unexecuted = s.unexecuted := by
  unfold setPresence; dsimp only; split <;> simp

@[simp] theorem setPresence_freeCount (p : Presence) (n : StationNum) (s : State) : (setPresence p n s).freeCount = s.freeCount := by
  unfold setPresence; dsimp only; split <;> simp

@[simp] theorem becomePresent_number (n : StationNum) (s : State) : (becomePresent n s).number = s.number := by simp [becomePresent]

@[simp] theorem becomePresent_resetting (n : StationNum) (s : State) : (becomePresent n s).resetting = s.resetting := by simp [becomePresent]

@[simp] theorem becomePresent_pins (n : StationNum) (s : State) : (becomePresent n s).pins = s.pins := by simp [becomePresent]

@[simp] theorem becomePresent_settings (n : StationNum) (s : State) : (becomePresent n s).settings = s.settings := by simp [becomePresent]

@[simp] theorem becomePresent_clock (n : StationNum) (s : State) : (becomePresent n s).clock = s.clock := by simp [becomePresent]

@[simp] theorem becomePresent_replica (n : StationNum) (s : State) : (becomePresent n s).replica = s.replica := by simp [becomePresent]

@[simp] theorem becomePresent_check (n : StationNum) (s : State) : (becomePresent n s).check = s.check := by simp [becomePresent]

@[simp] theorem becomePresent_shed (n : StationNum) (s : State) : (becomePresent n s).shed = s.shed := by simp [becomePresent]

@[simp] theorem becomePresent_rail (n : StationNum) (s : State) : (becomePresent n s).rail = s.rail := by simp [becomePresent]

@[simp] theorem becomePresent_reserve (n : StationNum) (s : State) : (becomePresent n s).reserve = s.reserve := by simp [becomePresent]

@[simp] theorem becomePresent_pending (n : StationNum) (s : State) : (becomePresent n s).pending = s.pending := by simp [becomePresent]

@[simp] theorem becomePresent_unexecuted (n : StationNum) (s : State) : (becomePresent n s).unexecuted = s.unexecuted := by simp [becomePresent]

@[simp] theorem becomePresent_freeCount (n : StationNum) (s : State) : (becomePresent n s).freeCount = s.freeCount := by simp [becomePresent]

/-! ## Both outcomes of an execution (R179) -/

@[simp] theorem onBoth_toStation (f : State → State) (s : State) : (onBoth f s).toStation = (f s).toStation := rfl

@[simp] theorem onBoth_pending (f : State → State) (s : State) : (onBoth f s).pending = (f s).pending := rfl

@[simp] theorem onBoth_unexecuted (f : State → State) (s : State) :
    (onBoth f s).unexecuted = s.unexecuted.map fun x => (f x.alone).toStation := rfl

@[simp] theorem alone_toStation (x : Station) : x.alone.toStation = x := rfl

@[simp] theorem alone_pending (x : Station) : x.alone.pending = [] := rfl

@[simp] theorem alone_unexecuted (x : Station) : x.alone.unexecuted = none := rfl

/-- With nothing executing there is nothing to abandon. -/
theorem abandonExecution_idle {s : State} (h : s.unexecuted = none) : abandonExecution s = s := by
  simp only [abandonExecution, h]

/-- An abandoned execution leaves the station that never had its effect, whose port alone keeps the edges of select (R179). -/
theorem abandonExecution_executing {s : State} {x : Station} (h : s.unexecuted = some x) :
    abandonExecution s = { s with
      toStation := { x with port := { s.port with drainSet := x.port.drainSet, drained := x.port.drained } }
      unexecuted := none } := by
  simp only [abandonExecution, h]

/-- With the start of a reset no request is in execution. -/
@[simp] theorem abandonExecution_unexecuted (s : State) : (abandonExecution s).unexecuted = none := by
  cases h : s.unexecuted with
  | none => rw [abandonExecution_idle h, h]
  | some x => rw [abandonExecution_executing h]

end Sys2Proof.Machine
end

