-- ==== Sys2Proof/Laws/Isolation.lean ====
section
/-!
SUPPORT. What an entry to ISOLATED and the escalation of a fatal fault leave, said once (R75, R136, R188).
-/
namespace Sys2Proof.Machine
open Sys2Proof.Safety

/-! ## Treatments of every outlet -/

/-- Every outlet is treated. -/
theorem mem_allOutlets (o : OutletNum) : o ∈ allOutlets := by revert o; decide

/-- A treatment of every outlet brings about for each what its own treatment does, if no other one's undoes it. -/
theorem forOutlets_establishes (P : OutletNum → State → Prop) (f : OutletNum → State → State)
    (own : ∀ o s, P o (f o s)) (others : ∀ o o' s, P o s → P o (f o' s)) (s : State) (o : OutletNum) :
    P o (forOutlets f s) := by
  have stays : ∀ (l : List OutletNum) (s : State), P o s → P o (l.foldl (fun t o' => f o' t) s) := by
    intro l
    induction l with
    | nil => exact fun _ h => h
    | cons o' l ih => exact fun s h => ih _ (others o o' s h)
  have reached : ∀ (l : List OutletNum) (s : State), o ∈ l → P o (l.foldl (fun t o' => f o' t) s) := by
    intro l
    induction l with
    | nil => simp
    | cons o' l ih =>
      intro s h
      rcases List.mem_cons.mp h with rfl | h
      · exact stays l _ (own o s)
      · exact ih _ h
  exact reached _ _ (mem_allOutlets o)

/-- A treatment that leaves a state as it is for each outlet leaves it so for all. -/
theorem forOutlets_id {f : OutletNum → State → State} {s : State} (h : ∀ o, f o s = s) : forOutlets f s = s := by
  unfold forOutlets
  generalize allOutlets = l
  induction l with
  | nil => rfl
  | cons o l ih => rw [List.foldl_cons, h, ih]

/-! ## One outlet -/

/-- An outlet record after one was changed. -/
theorem setOutlet_getElem (o o' : OutletNum) (f : Outlet → Outlet) (s : State) :
    (setOutlet o f s).outlets[o'] = if o = o' then f s.outlets[o] else s.outlets[o'] := by
  simp only [setOutlet, Fin.getElem_fin, Vector.getElem_set, Fin.ext_iff]

/-- An outlet that enters a state is in it; the other records and its own other fields stay. -/
theorem enterOutlet_getElem (st : OutletState) (c : OutletCause) (o o' : OutletNum) (s : State) :
    (enterOutlet st c o s).outlets[o'] = if o = o' then { s.outlets[o] with state := st } else s.outlets[o'] := by
  by_cases h : s.outlets[o].state = st
  · have same : enterOutlet st c o s = s := if_pos h
    subst h
    rw [same]
    split
    · next e => subst e; rfl
    · rfl
  · have moved : enterOutlet st c o s = outletEvent o c (setOutlet o (fun x => { x with state := st }) s) := if_neg h
    rw [moved]
    exact (congrArg (·[o']) (outletEvent_outlets ..)).trans (setOutlet_getElem ..)

/-- An outlet as an entry to ISOLATED or REFUSED leaves it (R136). -/
abbrev OutletIsolated (x : Outlet) : Prop := x.state = .off ∧ x.path = .allOpen ∧ x.standing = .absent

theorem isolateOutlet_own (o : OutletNum) (s : State) : OutletIsolated (isolateOutlet o s).outlets[o] := by
  unfold isolateOutlet
  rw [enterOutlet_getElem, if_pos rfl, setOutlet_getElem, if_pos rfl]
  exact ⟨rfl, rfl, rfl⟩

theorem isolateOutlet_others (o o' : OutletNum) (s : State) (h : OutletIsolated s.outlets[o]) :
    OutletIsolated (isolateOutlet o' s).outlets[o] := by
  rcases Decidable.em (o' = o) with rfl | e
  · exact isolateOutlet_own _ s
  · unfold isolateOutlet
    rwa [enterOutlet_getElem, if_neg e, setOutlet_getElem, if_neg e]

/-! ## The queue emptied (R104) -/

/-- With no frame due of an outlet nothing is posted for it. -/
theorem postDue_none {o : OutletNum} {s : State} (h : s.outlets[o].due = none) : postDue o s = s := by
  unfold postDue
  rw [h]

/-- With no frame due the frames that leave the queue make room for none. -/
theorem leaveQueue_without_due {gone : Posted → Bool} {s : State} (h : ∀ o : OutletNum, s.outlets[o].due = none) :
    (leaveQueue gone s).tie = { s.tie with queue := s.tie.queue.filter fun q => !gone q }
      ∧ (leaveQueue gone s).outlets = s.outlets := by
  have same (u : State) (hu : u.outlets = s.outlets) : forOutlets postDue u = u :=
    forOutlets_id fun o => postDue_none (by rw [hu]; exact h o)
  simp only [leaveQueue]
  rw [same]
  · exact ⟨rfl, rfl⟩
  · rfl

/-- Every due frame cleared. -/
theorem clearDue_all (s : State) (o : OutletNum) : (clearDue (fun _ _ => true) s).outlets[o].due = none := by
  have none_left (d : Option DueFrame) : d.filter (fun _ => !true) = none := by cases d <;> rfl
  unfold clearDue
  refine forOutlets_establishes (fun o t => t.outlets[o].due = none) _ (fun o t => ?_) (fun o o' t h => ?_) s o
  · rw [setOutlet_getElem, if_pos rfl]
    exact none_left _
  · rw [setOutlet_getElem]
    split
    · exact none_left _
    · exact h

/-- Due frames cleared leave the tie interface, and of an outlet everything else. -/
theorem clearDue_keeps (c : OutletNum → DueFrame → Bool) (s : State) (o : OutletNum) :
    (clearDue c s).tie = s.tie ∧ (OutletIsolated s.outlets[o] → OutletIsolated (clearDue c s).outlets[o]) := by
  unfold clearDue
  refine ⟨forOutlets_keeps (·.tie) _ (fun o t => setOutlet_tie o _ t) s, fun h => ?_⟩
  have keeps := forOutlets_keeps (fun t => (t.outlets[o].state, t.outlets[o].path, t.outlets[o].standing))
    (fun o => setOutlet o fun x => { x with due := x.due.filter fun d => !c o d })
    (fun o' t => by
      simp only [setOutlet_getElem]
      split
      · next e => subst e; rfl
      · rfl) s
  simp only [Prod.mk.injEq] at keeps
  exact ⟨keeps.1.trans h.1, keeps.2.1.trans h.2.1, keeps.2.2.trans h.2.2⟩

/-- The queue emptied: nothing posted, nothing in flight, an outlet as it was but for the frame due. -/
theorem emptyQueue_empties (s : State) :
    (emptyQueue s).tie = { s.tie with queue := [], tx := none }
      ∧ ∀ o : OutletNum, OutletIsolated s.outlets[o] → OutletIsolated (emptyQueue s).outlets[o] := by
  obtain ⟨tie, outlets⟩ := leaveQueue_without_due (gone := fun _ => true) (clearDue_all { s with tie.tx := none })
  have cleared := clearDue_keeps (fun _ _ => true) { s with tie.tx := none }
  refine ⟨?_, fun o h => ?_⟩
  · rw [emptyQueue, tie, (cleared 0).1]
    simp
  · rw [emptyQueue, outlets]
    exact (cleared o).2 h

/-! ## The entry to ISOLATED and the escalation -/

/-- What every outlet in the hands of an entry to ISOLATED leaves alone. -/
theorem isolateOutlets_keeps (s : State) :
    (forOutlets isolateOutlet s).membership = s.membership ∧ (forOutlets isolateOutlet s).replica = s.replica
      ∧ (forOutlets isolateOutlet s).settings = s.settings :=
  ⟨forOutlets_keeps (·.membership) _ (fun o t => by simp [isolateOutlet]) s,
   forOutlets_keeps (·.replica) _ (fun o t => by simp [isolateOutlet]) s,
   forOutlets_keeps (·.settings) _ (fun o t => by simp [isolateOutlet]) s⟩

/-- The duties cleared change the peers alone. -/
theorem clearDuties_keeps (s : State) :
    let t := forStations (fun n => setPeer n fun x => { x with duty := .none }) s
    t.membership.station = s.membership.station ∧ t.replica = s.replica ∧ t.settings = s.settings ∧ t.outlets = s.outlets
      ∧ t.tie = s.tie := by
  have keeps {α : Type} (g : State → α) (h : ∀ n t, g (setPeer n (fun x => { x with duty := .none }) t) = g t) :=
    forStations_keeps g (fun n => setPeer n fun x => { x with duty := .none }) h s
  exact ⟨keeps (·.membership.station) fun _ _ => rfl, keeps (·.replica) fun _ _ => rfl, keeps (·.settings) fun _ _ => rfl,
    keeps (·.outlets) fun _ _ => rfl, keeps (·.tie) fun _ _ => rfl⟩

/-- An emptied queue, stopped timers, a silent interface and an idle shed unit make an ISOLATED station of one whose outlets are
isolated. -/
theorem isolated_of {u : State} {r : Replica} {s : State} (station : u.membership.station = .isolated)
    (replica : u.replica = r) (outlets : ∀ o : OutletNum, OutletIsolated u.outlets[o])
    (tie : u.tie.queue = [] ∧ u.tie.tx = none) (settings : u.settings = s.settings) :
    Isolated r s (releaseShed (listenOnly (stopMembershipTimers u))) := by
  refine ⟨station, replica, outlets, tie.1, tie.2, ?_, rfl, rfl, settings⟩
  show (if u.tie.mode = .active then TieMode.listening else u.tie.mode) ≠ .active
  split
  · decide
  · assumption

/-- What an entry to ISOLATED leaves (R75, R80, R136, R138). -/
theorem enterIsolated_isolated (c : StationCause) (s : State) : Isolated s.replica s (enterIsolated c s) := by
  have entered : (enterStation .isolated c s).membership.station = .isolated
      ∧ (enterStation .isolated c s).replica = s.replica ∧ (enterStation .isolated c s).settings = s.settings := by
    simp [enterStation]
  unfold enterIsolated
  generalize enterStation .isolated c s = t at entered
  have outlets := forOutlets_establishes (fun o u => OutletIsolated u.outlets[o]) isolateOutlet isolateOutlet_own
    isolateOutlet_others t
  obtain ⟨membership, replica, settings⟩ := isolateOutlets_keeps t
  dsimp only
  generalize forOutlets isolateOutlet t = u at *
  obtain ⟨tie, empties⟩ := emptyQueue_empties u
  have kept : (emptyQueue u).membership = u.membership ∧ (emptyQueue u).replica = u.replica
      ∧ (emptyQueue u).settings = u.settings := by simp [emptyQueue]
  generalize emptyQueue u = v at *
  obtain ⟨station', replica', settings', outlets', tie'⟩ := clearDuties_keeps v
  refine isolated_of ?_ ?_ ?_ ?_ ?_
  · rw [station', kept.1, membership, entered.1]
  · rw [replica', kept.2.1, replica, entered.2.1]
  · rw [outlets']
    exact fun o => empties o (outlets o)
  · rw [tie', tie]
    exact ⟨rfl, rfl⟩
  · rw [settings', kept.2.2, settings, entered.2.2]

/-- The inrush mark changes nothing of a station that is ISOLATED: the filter it puts in force can set the rail flags and record a
fault, and no demand follows (R138, R158, R159). -/
theorem updateInrush_isolated {r : Replica} {s t : State} (h : Isolated r s t) : Isolated r s (updateInrush t) := by
  have idle : StationState.follows .isolated = false := rfl
  unfold updateInrush railRise
  split
  · exact h
  · dsimp only
    split
    · rw [if_neg (by simp [following, h.1, idle])]
      simpa [Isolated] using h
    · exact h

/-- With no fatal fault recorded the end of a treatment isolates nothing. -/
theorem escalate_idle {s : State} (h : s.report.escalate = false) : escalate s = s := by
  simp only [escalate, h, Bool.not_false, if_pos]

/-- A fatal fault isolates the station by the state that the treatment left (R188). -/
theorem escalate_isolated {s : State} (h : s.report.escalate = true) (st : s.membership.station.isolates = true) :
    Isolated s.replica s (escalate s) := by
  have isolated := updateInrush_isolated (enterIsolated_isolated .fatal s)
  simp only [escalate, h, st, Bool.not_true, Bool.false_eq_true, if_false, if_true]
  generalize updateInrush (enterIsolated .fatal s) = t at isolated
  exact isolated

/-- In CONFIG, REFUSED, ISOLATED and DORMANT a fatal fault is recorded only (R188). -/
theorem escalate_elsewhere {s : State} (h : s.membership.station.isolates = false) :
    escalate s = { s with report.escalate := false } := by
  unfold escalate
  by_cases e : s.report.escalate = true
  · simp [e, h]
  · have e : s.report.escalate = false := by simpa using e
    simp only [e, Bool.not_false, if_true]
    rw [← e]

/-- The states that a fatal fault isolates (R188). -/
theorem isolates_iff (st : StationState) : st.isolates = true ↔ st ∈ [.joining, .synced, .resyncing, .mute, .leaving] := by
  cases st <;> decide

end Sys2Proof.Machine
end

