-- ==== Sys2Proof/Laws/Kept.lean ====
section
/-!
SUPPORT. Everything a step can do, said once. A property that is kept by the few basic acts of the block (`BlockKept`) is kept
by every operation, every command and every step: one lemma per operation, cited by the next.
-/
namespace Sys2Proof.Machine

/-! ## The basic acts -/

/-- A property kept by what the outlet sequencer does: events, faults, outlet records, the send queue with the drain set, a
free value drawn. -/
structure OutletKept (P : State → Prop) : Prop where
  event : ∀ e s, P s → P (postEvent e s)
  fault : ∀ f s, P s → P (recordFault f s)
  outlets : ∀ v s, P s → P { s with outlets := v }
  tie : ∀ v s, P s → P { s with tie := v }
  drain : ∀ l s, P s → P { s with port.drainSet := l, port.drained := l.isEmpty }
  draw : ∀ s, P s → P { s with freeCount := s.freeCount + 1 }

/-- How the replica can change in one treatment: by an accepted frame with its pass (R1), by a snapshot load (R21), by
founding (R58), by being emptied (R20). -/
inductive AccountStep (r : Replica) : Replica → Prop where
  | frame (c : SharedSettings) (d : Option Half) (f : TieFrame) : AccountStep r (accountChange c d r f).replica
  | load (c : SharedSettings) (content : SnapshotContent) (wf : content.wellFormed = true)
      (sound : snapshotSound content = true) : AccountStep r (loadedReplica c content)
  | found (m : Half) : AccountStep r { Replica.empty with members := m }
  | emptied : AccountStep r Replica.empty

/-- A property kept by everything the block does, of which the station without the effect of the request in execution and the
commands that wait are no part. -/
structure BlockKept (P : State → Prop) : Prop extends OutletKept P where
  account : ∀ r s, AccountStep s.replica r → P s → P (setReplica r s)
  membership : ∀ v s, P s → P { s with membership := v }
  shed : ∀ v s, P s → P { s with shed := v }
  pins : ∀ v s, P s → P { s with pins := v }
  clock : ∀ v s, P s → P { s with clock := v }
  resetting : ∀ v s, P s → P { s with resetting := v }
  port : ∀ (v : Port) s, v.drainSet = s.port.drainSet → v.drained = s.port.drained → P s → P { s with port := v }
  settings : ∀ (v : Settings) s, v.station = s.settings.station → P s → P { s with settings := v }
  storeLocal : ∀ c s, P s → P (refreshAttention { s with settings.station := c })
  rail : ∀ (m : Monitor) s, m.live = s.rail.live → m.sticky = s.rail.sticky → P s → P { s with rail := m }
  railClear : ∀ s, P s → P { s with rail := s.rail.clearLive }
  railRise : ∀ s, P s → P { s with rail := s.rail.rise }
  reserve : ∀ (m : Monitor) s, m.live = s.reserve.live → m.sticky = s.reserve.sticky → P s → P { s with reserve := m }
  reserveClear : ∀ s, P s → P { s with reserve := s.reserve.clearLive }
  reserveRise : ∀ s, P s → P { s with reserve := s.reserve.rise }
  sticky : ∀ s, s.rail.live = false → s.reserve.live = false → P s → P (clearSticky s)
  clearFaults : ∀ set s, P s → P (clearFaults set s)
  takeEvent : ∀ s, P s → P (takeEvent s)
  unexecuted : ∀ v s, P s → P { s with unexecuted := v }
  pending : ∀ l s, P s → P { s with pending := l }
  endEscalation : ∀ s, P s → P { s with report.escalate := false }
  reset : ∀ c a s, P s → P (afterReset c a s)

/-- A treatment of every outlet keeps what each one keeps. -/
theorem forOutlets_kept {P : State → Prop} {f : OutletNum → State → State} (hf : ∀ o s, P s → P (f o s)) {s : State}
    (h : P s) : P (forOutlets f s) := by
  unfold forOutlets
  generalize allOutlets = l
  induction l generalizing s with
  | nil => exact h
  | cons o l ih => exact ih (hf o s h)

/-- The same where a condition picks the outlets. -/
theorem forOutletsWhere_kept {P : State → Prop} {c : OutletNum → State → Bool} {f : OutletNum → State → State}
    (hf : ∀ o s, P s → P (f o s)) {s : State} (h : P s) : P (forOutletsWhere c f s) := by
  unfold forOutletsWhere
  refine forOutlets_kept (fun o t ht => ?_) h
  split
  · exact hf o t ht
  · exact ht

/-- A treatment of every station number keeps what each one keeps. -/
theorem forStations_kept {P : State → Prop} {f : StationNum → State → State} (hf : ∀ n s, P s → P (f n s)) {s : State}
    (h : P s) : P (forStations f s) := by
  unfold forStations
  generalize allStations = l
  induction l generalizing s with
  | nil => exact h
  | cons o l ih => exact ih (hf o s h)

namespace OutletKept
variable {P : State → Prop} (k : OutletKept P)
include k

/-! ## The report unit, outlet records and the queue -/

theorem recordWhen {c f s} (h : P s) : P (recordWhen c f s) := by
  unfold Machine.recordWhen; split <;> simp (maxDischargeDepth := 9) [k.fault, h]

theorem setOutlet {o f s} (h : P s) : P (setOutlet o f s) := k.outlets _ _ h

theorem outletEvent {o c s} (h : P s) : P (outletEvent o c s) := k.event _ _ h

theorem enterOutlet {st c o s} (h : P s) : P (enterOutlet st c o s) := by
  unfold Machine.enterOutlet; split
  · exact h
  · exact k.outletEvent (k.setOutlet h)

theorem openSwitches {o s} (h : P s) : P (openSwitches o s) := k.setOutlet h

theorem openReserve {o s} (h : P s) : P (openReserve o s) := k.setOutlet h

theorem recordStanding {st o s} (h : P s) : P (recordStanding st o s) := k.setOutlet h

theorem post {i s} (h : P s) : P (post i s) := by
  unfold Machine.post; split
  · exact k.tie _ _ h
  · exact h

theorem postDue {o s} (h : P s) : P (postDue o s) := by
  unfold Machine.postDue; split
  · split
    · exact k.setOutlet (k.post h)
    · exact h
  · exact h

theorem leaveQueue {g s} (h : P s) : P (leaveQueue g s) := by
  unfold Machine.leaveQueue
  refine forOutlets_kept (fun o t ht => k.postDue ht) ?_
  exact k.drain _ _ (k.tie { s.tie with queue := s.tie.queue.filter fun q => !g q } s h)

theorem withdraw {c s} (h : P s) : P (withdraw c s) := k.leaveQueue h

theorem markFlight {c s} (h : P s) : P (markFlight c s) := k.tie _ _ h

theorem clearDue {c s} (h : P s) : P (clearDue c s) := forOutlets_kept (fun _ _ ht => k.setOutlet ht) h

theorem emptyQueue {s} (h : P s) : P (emptyQueue s) := k.leaveQueue (k.clearDue (k.tie _ _ h))

theorem emptyQueueConfig {s} (h : P s) : P (emptyQueueConfig s) := k.markFlight (k.withdraw (k.clearDue h))

theorem postOrDue {o d s} (h : P s) : P (postOrDue o d s) := by
  unfold Machine.postOrDue; split
  · exact k.post h
  · exact k.setOutlet h

theorem postCancel {o s} (h : P s) : P (postCancel o s) := k.postOrDue h

theorem postRelease {o s} (h : P s) : P (postRelease o s) := k.postOrDue (k.withdraw h)

theorem postClaim {o s} (h : P s) : P (postClaim o s) := k.post h

theorem giveUpClaim {o s} (h : P s) : P (giveUpClaim o s) := by
  unfold Machine.giveUpClaim; split
  · exact k.postCancel (k.setOutlet h)
  · exact k.withdraw h

/-! ## The outlet sequencer -/

theorem endStopping {c o s} (h : P s) : P (endStopping c o s) := by
  unfold Machine.endStopping; split
  · exact k.enterOutlet h
  · exact h

theorem failStart {f c o s} (h : P s) : P (failStart f c o s) :=
  k.enterOutlet (k.postCancel (k.openSwitches (k.fault _ _ h)))

theorem tripOutlet {o s} (h : P s) : P (tripOutlet o s) := by
  unfold Machine.tripOutlet
  dsimp only
  split <;>
    simp (maxDischargeDepth := 9) [k.failStart, k.enterOutlet, k.postRelease, k.openSwitches, k.fault, k.giveUpClaim, k.openReserve, k.postCancel,
      k.endStopping, h]

theorem testReserve {o f s} (hf : ∀ t, P t → P (f t)) (h : P s) : P (testReserve o f s) := by
  unfold Machine.testReserve
  dsimp only
  split
  · split <;> simp (maxDischargeDepth := 9) [k.tripOutlet, hf, k.setOutlet, h]
  · exact hf _ h

theorem enterTested {st c o s} (h : P s) : P (enterTested st c o s) :=
  k.testReserve (fun _ ht => ht) (k.enterOutlet h)

theorem queueTested {c o s} (h : P s) : P (queueTested c o s) :=
  k.testReserve (fun _ ht => k.postClaim ht) (k.enterOutlet h)

theorem claimOutlet {c o s} (h : P s) : P (claimOutlet c o s) := by
  unfold Machine.claimOutlet; split
  · exact k.postClaim (k.enterOutlet (k.openSwitches h))
  · exact k.queueTested h

theorem settleOutlet {o s} (h : P s) : P (settleOutlet o s) := by
  unfold Machine.settleOutlet
  dsimp only
  split <;> simp (maxDischargeDepth := 9) [k.tripOutlet, k.post, k.enterOutlet, k.setOutlet, h]

theorem closeWeak {o s} (h : P s) : P (closeWeak o s) := by
  unfold Machine.closeWeak
  dsimp only
  (repeat' split) <;> first
    | exact k.tripOutlet (k.draw _ (k.setOutlet h))
    | exact k.settleOutlet (k.draw _ (k.setOutlet h))
    | exact k.tripOutlet (k.setOutlet h)
    | exact k.settleOutlet (k.setOutlet h)
    | exact k.setOutlet h

theorem softStart {o s} (h : P s) : P (softStart o s) := by
  unfold Machine.softStart
  dsimp only
  split <;> simp (maxDischargeDepth := 9) [k.setOutlet, k.closeWeak, k.enterOutlet, h]

theorem startDeferred {s} (h : P s) : P (startDeferred s) := forOutletsWhere_kept (fun _ _ ht => k.softStart ht) h

theorem grantSlot {f o s} (hf : ∀ o t, P t → P (f o t)) (h : P s) : P (grantSlot f o s) := by
  unfold Machine.grantSlot; split
  · exact k.softStart h
  · exact hf _ _ h

theorem answerClaim {oc st o s} (h : P s) : P (answerClaim oc st o s) := by
  unfold Machine.answerClaim
  (repeat' split) <;> first
    | exact k.grantSlot (fun _ _ ht => k.enterTested ht) h
    | exact k.enterTested h
    | exact k.enterOutlet (k.openReserve h)

theorem endCancelling {c o s} (h : P s) : P (endCancelling c o s) := by
  unfold Machine.endCancelling; split
  · exact k.enterOutlet h
  · exact h

theorem answerTurnedAway {oc o s} (h : P s) : P (answerTurnedAway oc o s) := by
  unfold Machine.answerTurnedAway
  dsimp only
  (repeat' split) <;> simp (maxDischargeDepth := 9) [k.setOutlet, k.postCancel, h]

theorem actOnStanding {st o s} (h : P s) : P (actOnStanding st o s) := by
  unfold Machine.actOnStanding
  split
  · exact k.enterTested h
  · exact k.grantSlot (fun _ _ ht => k.enterTested ht) h
  · exact k.queueTested h
  · exact k.grantSlot (fun _ _ ht => ht) h
  · exact k.enterOutlet h
  · exact k.queueTested h
  · exact k.enterOutlet (k.openSwitches h)
  · exact k.enterOutlet (k.openSwitches h)
  · exact k.postClaim (k.enterOutlet (k.openSwitches h))
  · exact h

theorem takeReport {r s} (h : P s) : P (takeReport r s) := by
  unfold Machine.takeReport
  dsimp only
  have h' := k.recordStanding (st := r.standing) (o := r.outlet) h
  (repeat' split) <;> simp (maxDischargeDepth := 9) [k.answerClaim, k.actOnStanding, k.endCancelling, k.answerTurnedAway, k.endStopping, h']

theorem takeReports {l s} (h : P s) : P (takeReports l s) := by
  unfold Machine.takeReports
  induction l generalizing s with
  | nil => exact h
  | cons r l ih => exact ih (k.takeReport h)

theorem turnOff {o s} (h : P s) : P (turnOff o s) := by
  unfold Machine.turnOff
  dsimp only
  (repeat' split) <;>
    simp (maxDischargeDepth := 9) [k.enterOutlet, k.giveUpClaim, k.openReserve, k.postCancel, k.openSwitches, k.postRelease, k.setOutlet, h]

theorem endGap {o s} (h : P s) : P (endGap o s) := by
  unfold Machine.endGap; split <;> simp (maxDischargeDepth := 9) [k.closeWeak, k.setOutlet, h]

theorem endSettle {o s} (h : P s) : P (endSettle o s) := by
  unfold Machine.endSettle; split <;> simp (maxDischargeDepth := 9) [k.failStart, h]

theorem endBleed {o s} (h : P s) : P (endBleed o s) := by
  unfold Machine.endBleed; split <;> simp (maxDischargeDepth := 9) [k.endStopping, k.openSwitches, h]

theorem dropOutlet {o s} (h : P s) : P (dropOutlet o s) := by
  unfold Machine.dropOutlet; split <;> simp (maxDischargeDepth := 9) [k.enterOutlet, k.setOutlet, k.openSwitches, h]

theorem shedBelow {o s} (h : P s) : P (shedBelow o s) := by
  unfold Machine.shedBelow
  split <;> simp (maxDischargeDepth := 9) [k.enterOutlet, k.setOutlet, k.openSwitches, k.enterTested, k.endStopping, k.endCancelling, h]

theorem resolveDropped {c o s} (h : P s) : P (resolveDropped c o s) := by
  unfold Machine.resolveDropped
  dsimp only
  (repeat' split) <;> simp (maxDischargeDepth := 9) [k.enterOutlet, k.postCancel, k.postRelease, k.setOutlet, h]

theorem reclaimShed {o s} (h : P s) : P (reclaimShed o s) := by
  unfold Machine.reclaimShed; split <;> simp (maxDischargeDepth := 9) [k.claimOutlet, h]

theorem isolateOutlet {o s} (h : P s) : P (isolateOutlet o s) := k.enterOutlet (k.setOutlet h)

theorem reserveOpens {o s} (h : P s) : P (reserveOpens o s) := by
  unfold Machine.reserveOpens; split <;> simp (maxDischargeDepth := 9) [k.outletEvent, k.openReserve, h]

/-! ## Of the shed and tie units: what touches the queue and the outlets alone -/

theorem raiseShed {s} (h : P s) : P (raiseShed s) := k.tie _ _ h

theorem withdrawBelow {l s} (h : P s) : P (withdrawBelow l s) := k.withdraw (k.clearDue h)

theorem withdrawShedUpTo {l s} (h : P s) : P (withdrawShedUpTo l s) := k.withdraw h

theorem takeShedReports {l r s} (h : P s) : P (takeShedReports l r s) := by
  unfold Machine.takeShedReports
  refine forOutlets_kept (fun o t ht => ?_) h
  (repeat' split) <;> simp (maxDischargeDepth := 9) [k.shedBelow, k.recordStanding, k.takeReport, ht]

theorem restoreOutlets {s} (h : P s) : P (restoreOutlets s) :=
  forOutlets_kept (fun _ _ ht => k.reclaimShed ht) (forOutlets_kept (fun _ _ ht => k.resolveDropped ht) h)

theorem withdrawSuperseded {n s} (h : P s) : P (withdrawSuperseded n s) := k.leaveQueue (k.clearDue h)

theorem dropOutstandingClaim {o s} (h : P s) : P (dropOutstandingClaim o s) := by
  unfold Machine.dropOutstandingClaim; split <;> simp (maxDischargeDepth := 9) [k.withdraw, k.setOutlet, h]

theorem reconcileOutlet {b o s} (h : P s) : P (reconcileOutlet b o s) := by
  unfold Machine.reconcileOutlet
  dsimp only
  (repeat' split) <;>
    simp (maxDischargeDepth := 9) [k.enterTested, k.queueTested, k.enterOutlet, k.setOutlet, k.endStopping, k.postRelease, k.dropOutstandingClaim,
      h]

theorem reconcile {n l s} (h : P s) : P (reconcile n l s) := by
  unfold Machine.reconcile
  dsimp only
  refine forOutlets_kept (fun o t ht => k.reconcileOutlet ht) ?_
  generalize hs : Machine.withdrawSuperseded n s = s'
  have hs' : P s' := hs ▸ k.withdrawSuperseded h
  clear hs
  induction l generalizing s' with
  | nil => exact hs'
  | cons r l ih => exact ih _ (k.recordStanding hs')

end OutletKept

end Sys2Proof.Machine
end

