-- ==== Sys2Proof/Laws/KeptBlock.lean ====
section
/-!
SUPPORT. Everything a step can do, continued: a property kept by the basic acts (`BlockKept`) is kept by the shed unit, the
membership unit, every acceptance, the tie interface, the clock unit, the port, every command, the tick and every step.
-/
namespace Sys2Proof.Machine

namespace BlockKept
variable {P : State → Prop} (k : BlockKept P)
include k

/-- What `BlockKept` leaves free of a state may change at will. -/
theorem loose {s t : State} (h : P s)
    (e : t = { s with
      membership := t.membership, shed := t.shed, pins := t.pins, clock := t.clock, resetting := t.resetting
      tie := t.tie, outlets := t.outlets
      port := { t.port with drainSet := s.port.drainSet, drained := s.port.drained }
      settings := { t.settings with station := s.settings.station }
      rail := { t.rail with live := s.rail.live, sticky := s.rail.sticky }
      reserve := { t.reserve with live := s.reserve.live, sticky := s.reserve.sticky } }) : P t := by
  have h1 := k.membership t.membership s h
  have h2 := k.shed t.shed _ h1
  have h3 := k.pins t.pins _ h2
  have h4 := k.clock t.clock _ h3
  have h5 := k.resetting t.resetting _ h4
  have h6 := k.tie t.tie _ h5
  have h7 := k.outlets t.outlets _ h6
  have h8 := k.port { t.port with drainSet := s.port.drainSet, drained := s.port.drained } _ (by rfl) (by rfl) h7
  have h9 := k.settings { t.settings with station := s.settings.station } _ (by rfl) h8
  have h10 := k.rail { t.rail with live := s.rail.live, sticky := s.rail.sticky } _ (by rfl) (by rfl) h9
  have h11 := k.reserve { t.reserve with live := s.reserve.live, sticky := s.reserve.sticky } _ (by rfl) (by rfl) h10
  rw [e]
  exact h11

/-! ## The shed unit and the monitors -/

theorem postShed {s} (h : P s) : P (postShed s) := by
  unfold Machine.postShed
  dsimp only
  split
  · exact h
  split
  · exact k.raiseShed h
  split
  · have h0 := k.markFlight (c := isRestore) h
    revert h0
    generalize Machine.markFlight isRestore s = t
    intro h0
    exact k.shed _ _ h0
  · exact k.post (k.withdraw h)

theorem endPostPending {s} (h : P s) : P (endPostPending s) := by
  unfold Machine.endPostPending; split
  · exact k.postShed (k.loose h rfl)
  · exact h

theorem driverPost {s} (h : P s) : P (driverPost s) := by
  unfold Machine.driverPost; split
  · exact h
  · exact k.postShed (k.loose h rfl)

theorem countPulse {s} (h : P s) : P (countPulse s) := by
  unfold Machine.countPulse
  exact forOutletsWhere_kept (fun _ _ ht => k.dropOutlet ht) (k.raiseShed (k.loose h rfl))

theorem startFrameWait {s} (h : P s) : P (startFrameWait s) := k.loose h rfl

theorem demand {s} (h : P s) : P (demand s) := by
  unfold Machine.demand
  (repeat' split) <;> first
    | with_reducible exact h
    | exact k.driverPost (k.countPulse (k.shed _ _ (k.pins _ _ h)))
    | with_reducible exact k.driverPost h

theorem endStep {s} (h : P s) : P (endStep s) := by
  unfold Machine.endStep
  (repeat' split) <;> first
    | with_reducible exact h
    | exact k.demand (k.loose h rfl)
    | exact k.loose h rfl

theorem endFrameWait {s} (h : P s) : P (endFrameWait s) := by
  unfold Machine.endFrameWait; split
  · exact h
  · exact k.postShed (k.loose h rfl)

theorem releaseShed {s} (h : P s) : P (releaseShed s) := k.loose h rfl

theorem settleCount {n s} (h : P s) : P (settleCount n s) := k.loose h rfl

theorem postRemainder {b s} (h : P s) : P (postRemainder b s) := by
  unfold Machine.postRemainder
  (repeat' split) <;> first
    | with_reducible exact h
    | with_reducible exact k.postShed h
    | with_reducible exact k.startFrameWait h

theorem shedAccepted {b l n r s} (h : P s) : P (shedAccepted b l n r s) :=
  forOutlets_kept (fun _ _ ht => k.resolveDropped ht)
    (k.takeShedReports (k.postRemainder (k.settleCount (k.withdrawBelow (k.withdrawShedUpTo h)))))

theorem restoreShedUnit {s} (h : P s) : P (restoreShedUnit s) :=
  k.shed _ _ (k.withdraw h)

theorem railRise_kept {s} (h : P s) : P (Machine.railRise s) := by
  unfold Machine.railRise
  dsimp only
  split
  · exact k.demand (k.fault _ _ (k.railRise _ h))
  · exact k.fault _ _ (k.railRise _ h)

theorem reserveRise_kept {s} (h : P s) : P (Machine.reserveRise s) :=
  forOutlets_kept (fun _ _ ht => k.reserveOpens ht) (k.fault _ _ (k.reserveRise _ h))

theorem readRail {n s} (h : P s) : P (readRail n s) := by
  unfold Machine.readRail
  (repeat' split) <;> first
    | with_reducible exact h
    | with_reducible exact k.railClear _ h
    | exact k.loose h rfl

theorem readReserve {n s} (h : P s) : P (readReserve n s) := by
  unfold Machine.readReserve
  (repeat' split) <;> first
    | with_reducible exact h
    | with_reducible exact k.reserveClear _ h
    | exact k.loose h rfl

theorem readMonitors {n s} (h : P s) : P (readMonitors n s) := by
  unfold Machine.readMonitors; split
  · exact k.readReserve (k.readRail h)
  · exact h

theorem updateInrush {s} (h : P s) : P (updateInrush s) := by
  unfold Machine.updateInrush
  dsimp only
  (repeat' split) <;> first
    | with_reducible exact h
    | exact k.railRise_kept (k.loose h rfl)
    | exact k.loose h rfl

/-! ## The membership unit -/

theorem setPeer {n f s} (h : P s) : P (setPeer n f s) := k.membership _ _ h

theorem setPresence {p n s} (h : P s) : P (setPresence p n s) := by
  unfold Machine.setPresence
  dsimp only
  split
  · exact k.setPeer h
  · exact k.event _ _ (k.setPeer h)

theorem becomePresent {n s} (h : P s) : P (becomePresent n s) := k.withdraw (k.setPresence h)

theorem followMember {m n s} (h : P s) : P (followMember m n s) := by
  unfold Machine.followMember
  (repeat' split) <;> first
    | with_reducible exact h
    | with_reducible exact k.becomePresent h
    | with_reducible exact k.setPresence h

theorem followMembers {m s} (h : P s) : P (followMembers m s) := forStations_kept (fun _ _ ht => k.followMember ht) h

theorem clearPeers {s} (h : P s) : P (clearPeers s) := forStations_kept (fun _ _ ht => k.setPresence (k.setPeer ht)) h

theorem heard {n s} (h : P s) : P (heard n s) := by
  unfold Machine.heard
  (repeat' split) <;> first
    | with_reducible exact h
    | with_reducible exact k.becomePresent h
    | with_reducible exact k.setPeer h

theorem losePeer {n s} (h : P s) : P (losePeer n s) := by
  unfold Machine.losePeer; split
  · exact k.event _ _ (k.setPeer h)
  · exact h

theorem clearDuty {n s} (h : P s) : P (clearDuty n s) := k.withdraw (k.setPeer h)

theorem takeDuty {d n s} (h : P s) : P (takeDuty d n s) := by
  unfold Machine.takeDuty; split
  · exact h
  · exact k.withdraw (k.setPeer h)

theorem postDuty {s} (h : P s) : P (postDuty s) := by
  unfold Machine.postDuty
  (repeat' split) <;> first
    | with_reducible exact h
    | with_reducible exact k.post h

theorem enterStation {st c s} (h : P s) : P (enterStation st c s) := k.event _ _ (k.loose h rfl)

theorem leaveSynced {st s} (h : P s) : P (leaveSynced st s) := by
  unfold Machine.leaveSynced
  dsimp only
  (repeat' split) <;> first
    | with_reducible exact h
    | with_reducible exact k.markFlight (k.withdraw (forStations_kept (fun _ _ ht => k.setPeer ht) h))
    | with_reducible exact k.withdraw (k.markFlight (k.withdraw (forStations_kept (fun _ _ ht => k.setPeer ht) h)))

theorem stopWait {s} (h : P s) : P (stopWait s) := k.loose h rfl

theorem unsealSettings {s} (h : P s) : P (unsealSettings s) := k.loose h rfl

theorem postPresence {s} (h : P s) : P (postPresence s) := k.membership _ _ (k.post h)

theorem enterSynced {c s} (h : P s) : P (enterSynced c s) := k.postPresence (k.enterStation (k.stopWait h))

theorem enterResyncing {c s} (h : P s) : P (enterResyncing c s) :=
  k.membership _ _ (k.stopWait (k.enterStation (k.leaveSynced h)))

theorem enterMute {s} (h : P s) : P (enterMute s) := by
  unfold Machine.enterMute
  dsimp only
  split
  · exact k.membership _ _ (k.stopWait (k.enterStation (k.withdraw (k.withdraw (k.leaveSynced h)))))
  · exact k.membership _ _ (k.stopWait (k.enterStation (k.withdraw (k.leaveSynced h))))

theorem stopMembershipTimers {s} (h : P s) : P (stopMembershipTimers s) := k.membership _ _ (k.stopWait h)

theorem listenOnly {s} (h : P s) : P (listenOnly s) := k.tie _ _ h

theorem enterIsolated {c s} (h : P s) : P (enterIsolated c s) :=
  k.releaseShed (k.listenOnly (k.stopMembershipTimers (forStations_kept (fun _ _ ht => k.setPeer ht)
    (k.emptyQueue (forOutlets_kept (fun _ _ ht => k.isolateOutlet ht) (k.enterStation h))))))

theorem enterRefused {s} (h : P s) : P (enterRefused s) := by
  have h0 : P (Machine.emptyQueue (forOutlets Machine.isolateOutlet
      (Machine.enterStation .refused .refused (Machine.leaveSynced .refused s)))) :=
    k.emptyQueue (forOutlets_kept (fun _ _ ht => k.isolateOutlet ht) (k.enterStation (k.leaveSynced h)))
  exact k.membership _ _ (k.releaseShed (k.stopMembershipTimers (k.clearPeers (k.account _ _ .emptied h0))))

theorem enterConfig {c s} (h : P s) : P (enterConfig c s) :=
  k.enterStation (k.unsealSettings (k.releaseShed (k.emptyQueueConfig (k.stopMembershipTimers h))))

theorem foundJoining {s} (h : P s) : P (foundJoining s) := k.enterSynced (k.followMembers (k.account _ _ (.found _) h))

theorem foundResyncing {s} (h : P s) : P (foundResyncing s) := k.startDeferred (k.enterSynced h)

theorem endJoinAttempt {s} (h : P s) : P (endJoinAttempt s) := by
  unfold Machine.endJoinAttempt
  dsimp only
  split
  · exact k.post (k.membership _ _ (k.stopWait h))
  · exact k.enterConfig (k.fault _ _ (k.stopWait h))

theorem endResyncAttempt {s} (h : P s) : P (endResyncAttempt s) := by
  unfold Machine.endResyncAttempt
  dsimp only
  split
  · exact k.membership _ _ (k.stopWait h)
  · exact k.fault _ _ (k.membership _ _ (k.stopWait h))

theorem expireWait {s} (h : P s) : P (expireWait s) := by
  unfold Machine.expireWait
  (repeat' split) <;> first
    | with_reducible exact k.endJoinAttempt h
    | with_reducible exact k.foundJoining h
    | with_reducible exact k.endResyncAttempt h
    | with_reducible exact k.foundResyncing h
    | with_reducible exact k.stopWait h

theorem snapshotWaitExpires {b s} (h : P s) : P (snapshotWaitExpires b s) := by
  unfold Machine.snapshotWaitExpires
  (repeat' split) <;> first
    | with_reducible exact h
    | exact k.loose h rfl
    | with_reducible exact k.expireWait h

theorem endReception {s} (h : P s) : P (endReception s) := by
  unfold Machine.endReception
  dsimp only
  split
  · exact k.expireWait (k.loose h rfl)
  · exact k.loose h rfl

theorem startWait {s} (h : P s) : P (startWait s) := k.loose h rfl

theorem restartWait {s} (h : P s) : P (restartWait s) := by
  unfold Machine.restartWait; split
  · exact k.startWait h
  · exact h

theorem setFoundingMark {s} (h : P s) : P (setFoundingMark s) := k.loose h rfl

theorem lockReported {s} (h : P s) : P (lockReported s) := k.enterStation (k.post (k.loose h rfl))

theorem postWish {s} (h : P s) : P (postWish s) := by
  unfold Machine.postWish; split
  · exact h
  · exact k.membership _ _ (k.post h)

theorem compareCheck {c o n s} (h : P s) : P (compareCheck c o n s) := by
  unfold Machine.compareCheck
  dsimp only
  (repeat' split) <;> first
    | with_reducible exact h
    | with_reducible exact k.enterResyncing (k.fault _ _ h)
    | with_reducible exact k.fault _ _ h

theorem escalate {s} (h : P s) : P (escalate s) := by
  unfold Machine.escalate
  dsimp only
  (repeat' split) <;> first
    | with_reducible exact h
    | with_reducible exact k.endEscalation _ (k.updateInrush (k.enterIsolated h))
    | with_reducible exact k.endEscalation _ h

theorem finish {s} (h : P s) : P (finish s) := k.escalate (k.postDuty (k.postWish (k.updateInrush h)))

/-! ## Acceptance -/

theorem checkOvercommit {s} (h : P s) : P (checkOvercommit s) := k.recordWhen h

theorem loadSnapshot {a c s} (wf : c.wellFormed = true) (sound : snapshotSound c = true) (h : P s) :
    P (loadSnapshot a c s) := by
  unfold Machine.loadSnapshot
  dsimp only
  have h0 := k.account _ _ (AccountStep.load s.settings.shared c wf sound) h
  refine k.startDeferred ?_
  (repeat' split) <;> first
    | with_reducible exact k.takeReports (k.enterSynced (k.followMembers (k.settleCount h0)))
    | with_reducible exact k.takeReports (k.enterSynced (k.followMembers (k.settleCount (k.event _ _ h0))))
    | with_reducible exact k.takeShedReports (k.enterSynced (k.followMembers (k.settleCount (k.withdrawBelow h0))))
    | with_reducible exact k.takeShedReports (k.enterSynced (k.followMembers (k.settleCount (k.withdrawBelow (k.event _ _ h0)))))

theorem checkThenLoad {a c s} (wf : c.wellFormed = true) (h : P s) : P (checkThenLoad a c s) := by
  unfold Machine.checkThenLoad
  split
  · exact k.enterRefused (k.fault _ _ h)
  split
  · exact k.setFoundingMark h
  split
  · exact k.setFoundingMark (k.fault _ _ h)
  · rename_i hs
    exact k.loadSnapshot wf (by simpa using hs) h

theorem checkAndLoad {a c s} (wf : c.wellFormed = true) (h : P s) : P (checkAndLoad a c s) := by
  unfold Machine.checkAndLoad
  dsimp only
  split
  · exact k.checkOvercommit (k.checkThenLoad wf h)
  · exact k.checkThenLoad wf h

theorem refused {n d s} (h : P s) : P (refused n d s) := k.enterRefused (k.fault _ _ (k.setPeer h))

theorem acceptJoining {a s} (wf : carriable a.frame.body = true) (h : P s) : P (acceptJoining a s) := by
  unfold Machine.acceptJoining
  split
  · (repeat' split) <;> first
      | with_reducible exact k.startWait h
      | with_reducible exact k.enterRefused (k.fault _ _ h)
      | exact k.restartWait (k.membership _ _ h)
  · split
    · exact k.refused h
    · exact k.setFoundingMark h
  · rename_i hb
    split
    · exact k.checkAndLoad (by rw [hb] at wf; exact wf) h
    · exact k.setFoundingMark h
  · split
    · exact h
    · exact k.setFoundingMark h

theorem noteResyncing {a s} (h : P s) : P (noteResyncing a s) := by
  unfold Machine.noteResyncing
  (repeat' split) <;> first
    | with_reducible exact h
    | with_reducible exact k.restartWait h
    | with_reducible exact k.setFoundingMark h

theorem shedLevelEvent {l s} (h : P s) : P (shedLevelEvent l s) := by
  unfold Machine.shedLevelEvent; split
  · exact h
  · exact k.event _ _ h

theorem closeAccount {a m s} (h : P s) : P (closeAccount a m s) := by
  unfold Machine.closeAccount
  refine k.heard (k.followMembers ?_)
  split
  · exact k.checkOvercommit h
  · exact h

theorem followShed {a b l r n s} (h : P s) : P (followShed a b l r n s) := by
  unfold Machine.followShed
  split
  · exact k.heard (k.checkOvercommit h)
  · exact k.heard (k.shedAccepted (k.shedLevelEvent (k.checkOvercommit h)))

theorem followRestore {a l r s} (h : P s) : P (followRestore a l r s) := by
  unfold Machine.followRestore
  split
  · exact k.restoreOutlets (k.restoreShedUnit (k.closeAccount (k.shedLevelEvent (k.takeReports h))))
  · exact k.heard (k.checkOvercommit h)

theorem followOwnResync {a l r s} (h : P s) : P (followOwnResync a l r s) := by
  unfold Machine.followOwnResync
  dsimp only
  split
  · exact k.startWait (k.closeAccount (k.reconcile h))
  · exact k.closeAccount (k.reconcile h)

theorem leaveAccepted {s} (h : P s) : P (Machine.leaveAccepted s) :=
  k.enterConfig (k.emptyQueue (k.clearPeers (k.account _ _ .emptied h)))

theorem clearDutyOf {n s} (h : P s) : P (clearDutyOf n s) := by
  unfold Machine.clearDutyOf; split
  · exact k.clearDuty h
  · exact h

theorem followRefuse {a b d s} (h : P s) : P (followRefuse a b d s) := by
  unfold Machine.followRefuse
  dsimp only
  (repeat' split) <;> first
    | with_reducible exact k.refused (k.clearDutyOf h)
    | with_reducible exact k.fault _ _ (k.clearDutyOf h)
    | with_reducible exact k.recordWhen (k.clearDutyOf h)

theorem followSnapshot {a b c d s} (wf : c.wellFormed = true) (h : P s) : P (followSnapshot a b c d s) := by
  unfold Machine.followSnapshot
  dsimp only
  split
  · exact k.checkAndLoad wf (k.clearDutyOf h)
  · exact k.compareCheck (k.checkOvercommit (k.clearDutyOf h))

theorem followMembership {a c s} (wf : carriable a.frame.body = true) (h : P s) : P (followMembership a c s) := by
  unfold Machine.followMembership
  cases hb : a.frame.body <;> dsimp only
  case join => exact k.takeDuty h
  case resync => exact k.takeDuty h
  case leave =>
    split
    · exact k.leaveAccepted (k.clearDuty h)
    · exact k.clearDuty h
  case forget => exact k.recordWhen (k.clearDutyOf h)
  case refuse => exact k.followRefuse h
  case snapshot => exact k.followSnapshot (by rw [hb] at wf; exact wf) h
  case presence =>
    split
    · exact h
    · exact k.compareCheck h
  all_goals exact h

theorem acceptFollowing {a s} (wf : carriable a.frame.body = true) (h : P s) : P (acceptFollowing a s) := by
  unfold Machine.acceptFollowing
  dsimp only
  refine k.followMembership wf (k.noteResyncing ?_)
  have h0 := k.recordWhen (c := (accountChange s.settings.shared s.settings.digest s.replica a.frame).foreign)
    (f := .foreignFrame) (k.account _ _ (AccountStep.frame s.settings.shared s.settings.digest a.frame) h)
  split
  · exact k.followShed h0
  · exact k.followRestore h0
  · split
    · exact k.followOwnResync h0
    · exact k.closeAccount (k.takeReports h0)
  · exact k.closeAccount (k.takeReports h0)

theorem acceptIdle {a s} (h : P s) : P (acceptIdle a s) := by
  unfold Machine.acceptIdle; split
  · exact k.recordWhen h
  · exact h

theorem treatAccepted {a s} (wf : carriable a.frame.body = true) (h : P s) : P (treatAccepted a s) := by
  unfold Machine.treatAccepted
  (repeat' split) <;> first
    | with_reducible exact k.acceptJoining wf h
    | with_reducible exact k.acceptFollowing wf h
    | exact k.acceptFollowing wf (k.membership _ _ (k.enterResyncing h))
    | with_reducible exact k.acceptIdle h

theorem acceptVeto {b s} (h : P s) : P (acceptVeto b s) := by
  unfold Machine.acceptVeto; split
  · exact h
  · exact k.loose h rfl

theorem restartPresence {b s} (h : P s) : P (restartPresence b s) := by
  unfold Machine.restartPresence; split
  · exact k.loose h rfl
  · exact h

theorem treat {a s} (wf : carriable a.frame.body = true) (h : P s) : P (treat a s) := by
  unfold Machine.treat
  dsimp only
  refine k.finish (k.endReception (k.treatAccepted wf (k.recordWhen (k.restartPresence (k.acceptVeto ?_)))))
  split
  · exact k.tie _ _ (k.leaveQueue (k.tie _ _ h))
  · exact k.tie _ _ h

theorem acceptFrame {f s} (h : P s) : P (acceptFrame f s) := by
  unfold Machine.acceptFrame
  split
  · exact h
  · rename_i hc
    have wf : carriable f.body = true := by
      simp only [Bool.or_eq_true, not_or, Bool.not_eq_true, Bool.not_eq_false'] at hc
      exact hc.2
    (repeat' split) <;> first
      | with_reducible exact k.treat wf h
      | with_reducible exact h

/-! ## The tie interface -/

theorem beginAttempt {s} (h : P s) : P (beginAttempt s) := by
  unfold Machine.beginAttempt
  (repeat' split) <;> first
    | with_reducible exact h
    | with_reducible exact k.tie _ _ h

theorem setFailed {n m s} (h : P s) : P (setFailed n m s) := k.tie _ _ h

theorem exhausted {q s} (h : P s) : P (exhausted q s) := by
  unfold Machine.exhausted
  dsimp only
  (repeat' split) <;> first
    | with_reducible exact k.enterMute h
    | with_reducible exact k.endJoinAttempt (k.leaveQueue h)
    | with_reducible exact k.leaveQueue h
    | with_reducible exact h

theorem failAttempt {s} (h : P s) : P (failAttempt s) := by
  unfold Machine.failAttempt
  dsimp only
  have h0 : P { s with tie.tx := none } := k.tie _ _ h
  (repeat' split) <;> first
    | with_reducible exact h0
    | with_reducible exact k.endPostPending (k.leaveQueue h0)
    | with_reducible exact k.setFailed h0
    | with_reducible exact k.exhausted (k.fault _ _ (k.setFailed h0))

theorem loseArbitration {s} (h : P s) : P (loseArbitration s) := by
  unfold Machine.loseArbitration
  dsimp only
  have h0 : P { s with tie.tx := none, tie.receiving := true } := k.tie _ _ h
  (repeat' split) <;> first
    | with_reducible exact h0
    | with_reducible exact k.endPostPending (k.leaveQueue h0)

theorem cutTransmission {s} (h : P s) : P (cutTransmission s) := by
  unfold Machine.cutTransmission
  dsimp only
  have h0 : P { s with tie.tx := none, tie.aborting := false } := k.tie _ _ h
  (repeat' split) <;> first
    | with_reducible exact h0
    | with_reducible exact k.leaveQueue h0

theorem tieOff {s} (h : P s) : P (tieOff s) := k.tie _ _ (k.cutTransmission h)

theorem countVeto {s} (h : P s) : P (countVeto s) := by
  unfold Machine.countVeto
  dsimp only
  (repeat' split) <;> first
    | with_reducible exact k.tie _ _ h
    | with_reducible exact k.enterResyncing (k.fault _ _ (k.tie _ _ h))
    | with_reducible exact k.fault _ _ (k.tie _ _ h)

theorem receiveVetoed {r s} (h : P s) : P (receiveVetoed r s) := by
  unfold Machine.receiveVetoed
  (repeat' split) <;> first
    | with_reducible exact h
    | with_reducible exact k.tie _ _ h
    | with_reducible exact k.countVeto h

theorem frameDiscarded {r s} (h : P s) : P (frameDiscarded r s) := by
  unfold Machine.frameDiscarded
  dsimp only
  refine k.finish (k.endReception ?_)
  split
  · exact k.tie _ _ (k.failAttempt h)
  · exact k.tie _ _ (k.receiveVetoed h)

theorem malformed {b s} (h : P s) : P (malformed b s) := by
  unfold Machine.malformed
  dsimp only
  refine k.finish (k.endReception ?_)
  (repeat' split) <;> first
    | with_reducible exact k.tie _ _ (k.countVeto (k.tie _ _ h))
    | with_reducible exact k.tie _ _ (k.tie _ _ h)

theorem reachIdle {s} (h : P s) : P (reachIdle s) := k.finish (k.endReception (k.tie _ _ h))

/-! ## Clock, dormancy, reset -/

theorem startClock {s} (h : P s) : P (startClock s) := by
  unfold Machine.startClock; split <;> exact k.clock _ _ h

theorem oscillatorRuns {s} (h : P s) : P (oscillatorRuns s) := by
  unfold Machine.oscillatorRuns; split
  · exact h
  · exact k.clock _ _ h

theorem pllLocks {s} (h : P s) : P (pllLocks s) := by
  unfold Machine.pllLocks; split
  · exact k.lockReported (k.clock _ _ h)
  · exact h

theorem lockFails {s} (h : P s) : P (lockFails s) := by
  unfold Machine.lockFails; split
  · exact h
  · exact k.unsealSettings (k.fault _ _ (k.clock _ _ h))

theorem lockLost {s} (h : P s) : P (lockLost s) := k.fault _ _ (k.tieOff (k.shed _ _ (k.loose h rfl)))

theorem crystalStops {s} (h : P s) : P (crystalStops s) := by
  unfold Machine.crystalStops
  dsimp only
  have h0 : P { s with clock.source := .internal } := k.clock _ _ h
  (repeat' split) <;> first
    | with_reducible exact h
    | with_reducible exact k.lockLost h0
    | with_reducible exact k.lockFails h0
    | with_reducible exact k.fault _ _ h0

theorem stopMonitors {s} (h : P s) : P (stopMonitors s) := k.reserveClear _ (k.railClear _ h)

theorem enterDormant {b s} (h : P s) : P (enterDormant b s) := by
  unfold Machine.enterDormant
  dsimp only
  refine k.enterStation ?_
  split
  · exact k.stopMonitors (k.tieOff h)
  · exact k.shed _ _ (k.clock _ _ (k.stopMonitors (k.tieOff h)))

theorem wake {s} (h : P s) : P (wake s) := by
  unfold Machine.wake
  dsimp only
  refine k.unexecuted _ _ (k.finish (k.enterStation ?_))
  split <;> exact k.loose h rfl

theorem startReset {r s} (h : P (abandonExecution s)) : P (startReset r s) := by
  unfold Machine.startReset
  dsimp only
  have h0 := forOutlets_kept (f := Machine.openSwitches) (fun _ _ ht => k.openSwitches ht) h
  revert h0
  generalize forOutlets Machine.openSwitches (abandonExecution s) = t
  intro h0
  exact k.loose h0 rfl

theorem completeReset {a s} (h : P s) : P (completeReset a s) := by
  unfold Machine.completeReset
  (repeat' split) <;> first
    | with_reducible exact h
    | with_reducible exact k.reset _ _ _ h

/-! ## The command port -/

theorem fallingEdge {s} (h : P s) : P (fallingEdge s) := by
  unfold Machine.fallingEdge
  dsimp only
  (repeat' split) <;> first
    | exact k.loose h rfl
    | exact k.port _ _ (by rfl) (by rfl) (k.wake (k.loose h rfl))

theorem ensureSelected {s} (h : P s) : P (ensureSelected s) := by
  unfold Machine.ensureSelected; split
  · exact h
  · exact k.fallingEdge h

theorem execute {c f s} (hf : P (f s).1) : P (execute c f s) := by
  unfold Machine.execute
  dsimp only
  have h0 := k.unexecuted (some s.toStation) (f s).1 hf
  revert h0
  generalize (f s).1 = u
  intro h0
  exact k.port { u.port with executing := _ } _ (by rfl) (by rfl) h0

theorem completeExecution {s} (h : P s) : P (completeExecution s) := by
  unfold Machine.completeExecution; split
  · exact k.port { s.port with lastResponse := _, executing := none } _ (by rfl) (by rfl) (k.unexecuted none _ h)
  · exact h

omit k in
theorem reading {a s} (h : P s) : P (reading a s).1 := h

omit k in
theorem guardedBy {c f s} (hf : P s → P (f s)) (h : P s) : P (guardedBy c f s).1 := by
  unfold Machine.guardedBy; split
  · exact h
  · exact hf h

theorem setSharedEffect {r s} (h : P s) : P (setSharedEffect r s).1 := by
  unfold Machine.setSharedEffect; split
  · exact h
  · exact guardedBy (fun h => k.loose h rfl) h

theorem setOutletEffect {r s} (h : P s) : P (setOutletEffect r s).1 := by
  unfold Machine.setOutletEffect; split
  · exact h
  · exact guardedBy (fun h => k.setOutlet h) h

theorem storeLocal_kept {c s} (h : P s) : P (Machine.storeLocal c s) := by
  unfold Machine.storeLocal
  dsimp only
  refine k.readMonitors ?_
  split
  · exact k.finish (k.railRise_kept (k.storeLocal _ _ h))
  · exact k.storeLocal _ _ h

theorem setLocalEffect {r s} (h : P s) : P (setLocalEffect r s).1 := by
  unfold Machine.setLocalEffect; split
  · exact h
  · exact guardedBy k.storeLocal_kept h

theorem beginJoin {s} (h : P s) : P (beginJoin s) := by
  unfold Machine.beginJoin
  dsimp only
  refine k.finish ?_
  split
  · exact k.lockReported (forStations_kept (fun _ _ ht => k.setPeer ht) (k.loose h rfl))
  · exact k.startClock (k.settings _ _ (by rfl) (forStations_kept (fun _ _ ht => k.setPeer ht) (k.loose h rfl)))

theorem markEffect {s} (h : P s) : P (markEffect s).1 := k.drain _ _ h

theorem clearStickyEffect {s} (h : P s) : P (Machine.guardedBy clearStickyCheck clearSticky s).1 := by
  unfold Machine.guardedBy clearStickyCheck
  cases hr : s.rail.live
  · cases hv : s.reserve.live
    · simpa using k.sticky _ hr hv h
    · simpa using h
  · simpa using h

theorem dormantEffect {b s} (h : P s) : P (dormantEffect b s).1 := by
  unfold Machine.dormantEffect; split
  · exact h
  · exact guardedBy (fun h => k.finish (k.enterDormant h)) h

theorem outletOnEffect {b s} (h : P s) : P (outletOnEffect b s).1 := by
  unfold Machine.outletOnEffect; split
  · exact h
  · exact guardedBy (fun h => k.finish (k.claimOutlet h)) h

theorem outletOffEffect {b s} (h : P s) : P (outletOffEffect b s).1 := by
  unfold Machine.outletOffEffect; split
  · exact h
  · exact k.finish (k.turnOff h)

theorem outletClearEffect {b s} (h : P s) : P (outletClearEffect b s).1 := by
  unfold Machine.outletClearEffect
  (repeat' split) <;> first
    | with_reducible exact h
    | with_reducible exact k.finish (k.enterOutlet h)

theorem beginLeave {s} (h : P s) : P (beginLeave s) := by
  unfold Machine.beginLeave; split
  · exact k.enterConfig h
  · exact k.enterStation (k.leaveSynced (k.post h))

theorem forgetEffect {b s} (h : P s) : P (forgetEffect b s).1 := by
  unfold Machine.forgetEffect; split
  · exact h
  · exact guardedBy (fun h => k.post h) h

/-! ## Inputs, the shed line, the sense inputs -/

theorem settleInput {o b s} (h : P s) : P (settleInput o b s) := by
  have h0 := k.pins { s.pins with settle := setInput s.pins.settle o b } _ h
  unfold Machine.settleInput
  dsimp only
  split
  · exact h0
  split
  · exact k.finish (k.settleOutlet h0)
  · exact h0

theorem tripInput {o b s} (h : P s) : P (tripInput o b s) := by
  have h0 := k.pins { s.pins with trip := setInput s.pins.trip o b } _ h
  unfold Machine.tripInput
  dsimp only
  split
  · exact h0
  split
  · exact k.finish (k.tripOutlet h0)
  · exact h0

theorem setLineLevel {b s} (h : P s) : P (setLineLevel b s) := k.pins _ _ h

theorem fallFromReady {s} (h : P s) : P (fallFromReady s) := by
  have h0 : P (Machine.setLineLevel true s) := k.setLineLevel h
  unfold Machine.fallFromReady
  dsimp only
  split
  · exact h0
  split
  · split
    · exact k.finish (k.startFrameWait (k.countPulse (k.shed _ _ h0)))
    · exact k.shed _ _ h0
  · exact h

theorem riseOfLine {s} (h : P s) : P (riseOfLine s) := by
  have h0 : P (Machine.setLineLevel false s) := k.setLineLevel h
  unfold Machine.riseOfLine
  (repeat' split) <;> first
    | with_reducible exact h
    | with_reducible exact h0
    | exact k.shed _ _ h0

theorem fallWhileRecovering {s} (h : P s) : P (fallWhileRecovering s) := by
  have h0 : P (Machine.setLineLevel true s) := k.setLineLevel h
  unfold Machine.fallWhileRecovering
  (repeat' split) <;> first
    | with_reducible exact h
    | with_reducible exact h0
    | exact k.shed _ _ h0

theorem railSagReading {x n s} (h : P s) : P (railSagReading x n s) := by
  have h0 := k.pins { s.pins with railSense := x } _ h
  unfold Machine.railSagReading
  dsimp only
  split
  · exact h0
  split
  · exact k.finish (k.railRise_kept (k.readRail h0))
  · exact k.readRail h0

theorem railReading {x s} (h : P s) : P (railReading x s) := by
  have h0 := k.pins { s.pins with railSense := x } _ h
  unfold Machine.railReading
  dsimp only
  split
  · exact k.readRail h0
  · exact h0

theorem reserveLowReading {x n s} (h : P s) : P (reserveLowReading x n s) := by
  have h0 := k.pins { s.pins with reserveSense := x } _ h
  unfold Machine.reserveLowReading
  dsimp only
  split
  · exact h0
  split
  · exact k.finish (k.reserveRise_kept (k.readReserve h0))
  · exact k.readReserve h0

theorem reserveReading {x s} (h : P s) : P (reserveReading x s) := by
  have h0 := k.pins { s.pins with reserveSense := x } _ h
  unfold Machine.reserveReading
  dsimp only
  split
  · exact k.readReserve h0
  · exact h0

/-! ## Timers, tick, commands, steps -/

theorem presenceExpires {s} (h : P s) : P (presenceExpires s) := by
  unfold Machine.presenceExpires; split
  · exact k.postPresence h
  · exact h

theorem muteAttempt {s} (h : P s) : P (muteAttempt s) := by
  unfold Machine.muteAttempt
  dsimp only
  (repeat' split) <;> first
    | with_reducible exact h
    | exact k.loose h rfl
    | exact k.post (k.loose h rfl)

theorem isolationExpires {s} (h : P s) : P (isolationExpires s) := by
  unfold Machine.isolationExpires; split
  · exact h
  · exact k.finish (k.enterIsolated (k.fault _ _ h))

theorem waitRunsOut {s} (h : P s) : P (waitRunsOut s) := by
  unfold Machine.waitRunsOut; split
  · exact k.snapshotWaitExpires h
  · exact k.snapshotWaitExpires (k.draw _ h)

theorem treatDue {e s} (h : P s) : P (treatDue e s) := by
  unfold Machine.treatDue
  (repeat' split) <;> first
    | with_reducible exact h
    | with_reducible exact k.finish (k.endGap h)
    | with_reducible exact k.finish (k.endSettle h)
    | with_reducible exact k.finish (k.endBleed h)
    | with_reducible exact k.finish (k.waitRunsOut h)
    | with_reducible exact k.presenceExpires h
    | with_reducible exact k.finish (k.losePeer h)
    | with_reducible exact k.muteAttempt h
    | with_reducible exact k.isolationExpires h
    | with_reducible exact k.finish (k.lockFails h)
    | with_reducible exact k.finish (k.endStep h)
    | with_reducible exact k.endFrameWait h
    | with_reducible exact k.finish (k.railRise_kept h)
    | with_reducible exact k.finish (k.reserveRise_kept h)

theorem treatAllDue {n l s} (h : P s) : P (treatAllDue n l s) := by
  induction n generalizing l s with
  | zero => simpa [Machine.treatAllDue] using h
  | succ n ih =>
    match l with
    | [] => simpa [Machine.treatAllDue] using h
    | [e] => simpa [Machine.treatAllDue] using k.treatDue h
    | e :: e' :: l =>
      simp only [Machine.treatAllDue]
      split
      · exact ih (k.treatDue (k.draw _ h))
      · exact h

theorem advanceTimers {s} (h : P s) : P (advanceTimers s) := k.loose h rfl

theorem tick {s} (h : P s) : P (tick s) := by
  unfold Machine.tick
  dsimp only
  split
  · exact h
  · exact k.treatAllDue (k.readMonitors (k.advanceTimers h))

end BlockKept

end Sys2Proof.Machine
end

