-- ==== Sys2Proof/Laws/KeptStep.lean ====
section
/-!
SUPPORT. Everything a step can do, concluded: every command and every step answers a next state and keeps what `BlockKept`
keeps, of the station and of the station without the effect of the request in execution (`Both`).
-/
namespace Sys2Proof.Machine

open Sys2Proof.Safety

/-- With no request in execution there is one station only. -/
theorem both_of_none {P : State → Prop} {s : State} (h : P s) (hn : s.unexecuted = none) : Both P s :=
  ⟨h, fun x hx => by rw [hn] at hx; cases hx⟩

/-- Two states with the same station beside them. -/
theorem both_of_eq {P : State → Prop} {s t : State} (h : Both P s) (ht : P t) (e : t.unexecuted = s.unexecuted) : Both P t :=
  ⟨ht, fun x hx => h.2 x (e ▸ hx)⟩

/-- The start of a reset leaves no request in execution (R179). -/
theorem startReset_unexecuted (r : ResetRun) (s : State) : (startReset r s).unexecuted = none := by
  have h : (forOutlets openSwitches (abandonExecution s)).unexecuted = none := by
    have h0 := abandonExecution_unexecuted s
    generalize abandonExecution s = t at h0
    refine forOutlets_kept (P := fun u => u.unexecuted = none) (fun o u hu => ?_) h0
    rw [openSwitches, setOutlet_unexecuted]
    exact hu
  revert h
  unfold startReset
  generalize forOutlets openSwitches (abandonExecution s) = t
  exact id

/-- A falling edge of select leaves the station beside the one in use as it was, or ends the execution by a wake (R178). -/
theorem fallingEdge_unexecuted (s : State) :
    (fallingEdge s).unexecuted = s.unexecuted ∨ (fallingEdge s).unexecuted = none := by
  unfold fallingEdge
  dsimp only
  (repeat' split) <;> first
    | exact .inl rfl
    | exact .inr rfl

theorem ensureSelected_unexecuted (s : State) :
    (ensureSelected s).unexecuted = s.unexecuted ∨ (ensureSelected s).unexecuted = none := by
  unfold ensureSelected
  split
  · exact .inl rfl
  · exact fallingEdge_unexecuted s

namespace BlockKept
variable {P : State → Prop} (k : BlockKept P)
include k

omit k in
/-- A meaning that does nothing where a condition holds. -/
theorem unlessResetting {b : Bool} {t s : State} (ht : P t) (h : P s) : P (if b then s else t) := by
  cases b
  · exact ht
  · exact h

/-- What is done to the station and to the one beside it alike is kept of both. -/
theorem onBoth {f : State → State} (hf : ∀ s, P s → P (f s)) {s} (h : Both P s) : Both P (Machine.onBoth f s) := by
  refine ⟨k.unexecuted _ _ (hf s h.1), fun x hx => ?_⟩
  cases hu : s.unexecuted with
  | none => simp [Machine.onBoth, hu] at hx
  | some y =>
    obtain rfl : (f y.alone).toStation = x := by simpa [Machine.onBoth, hu] using hx
    exact k.pending [] _ (k.unexecuted none _ (hf _ (h.2 y hu)))

/-- A frame that is there by the effect alone leaves the station without the effect as it was. -/
theorem actsOnBus {f : State → State} (hf : ∀ s, P s → P (f s)) {s} (h : Both P s) :
    ∃ t, Machine.actsOnBus f s = .next t ∧ Both P t := by
  refine ⟨_, rfl, k.unexecuted _ _ (hf s h.1), fun x hx => ?_⟩
  cases hu : s.unexecuted with
  | none => simp [hu] at hx
  | some y =>
    obtain rfl : (if sentByEffect s y then y else (f y.alone).toStation) = x := by simpa [hu] using hx
    split
    · exact h.2 y hu
    · exact k.pending [] _ (k.unexecuted none _ (hf _ (h.2 y hu)))

omit k in
/-- What has no effect during a reset keeps what its effect keeps. -/
theorem outsideReset {f : State → State} (hf : ∀ s, P s → P (f s)) (s) (h : P s) : P (Machine.outsideReset f s) :=
  unlessResetting (hf s h) h

theorem acts {f : State → State} (hf : ∀ s, P s → P (f s)) {s} (h : Both P s) : ∃ t, Machine.acts f s = .next t ∧ Both P t :=
  ⟨_, rfl, k.onBoth hf h⟩

theorem actsOutsideReset {f : State → State} (hf : ∀ s, P s → P (f s)) {s} (h : Both P s) :
    ∃ t, Machine.actsOutsideReset f s = .next t ∧ Both P t :=
  k.acts (outsideReset hf) h

theorem actsOnBusOutsideReset {f : State → State} (hf : ∀ s, P s → P (f s)) {s} (h : Both P s) :
    ∃ t, Machine.actsOnBus (Machine.outsideReset f) s = .next t ∧ Both P t :=
  k.actsOnBus (outsideReset hf) h

theorem both_fallingEdge {s} (h : Both P s) : Both P (Machine.fallingEdge s) := by
  rcases fallingEdge_unexecuted s with e | e
  · exact both_of_eq h (k.fallingEdge h.1) e
  · exact both_of_none (k.fallingEdge h.1) e

theorem both_ensureSelected {s} (h : Both P s) : Both P (Machine.ensureSelected s) := by
  rcases ensureSelected_unexecuted s with e | e
  · exact both_of_eq h (k.ensureSelected h.1) e
  · exact both_of_none (k.ensureSelected h.1) e

theorem both_transact {b f s} (hf : ∀ t, Both P t → Both P (f t)) (h : Both P s) : Both P (Machine.transact b f s) := by
  unfold Machine.transact
  dsimp only
  have h0 := k.both_ensureSelected h
  revert h0
  generalize Machine.ensureSelected s = t
  intro h0
  split
  · exact both_of_eq h0 (k.loose h0.1 rfl) rfl
  · exact hf _ (both_of_eq h0 (k.loose h0.1 rfl) rfl)

/-- The station before an effect stands beside the one after it. -/
theorem both_execute {c f s} (hf : P (f s).1) (h : P s) : Both P (Machine.execute c f s) := by
  refine ⟨k.execute hf, fun x hx => ?_⟩
  obtain rfl : s.toStation = x := by simpa [Machine.execute] using hx
  exact k.pending [] _ (k.unexecuted none _ h)

theorem both_request {c b f s} (hf : ∀ t, P t → P (f t).1) (h : Both P s) : Both P (Machine.request c b f s) :=
  k.both_transact (fun t ht => k.both_execute (hf t ht.1) ht.1) h

theorem both_completeExecution {s} (h : Both P s) : Both P (Machine.completeExecution s) := by
  refine ⟨k.completeExecution h.1, ?_⟩
  unfold Machine.completeExecution
  split
  · exact fun x hx => by cases hx
  · exact h.2

/-- An execution abandoned goes on from the station that never had its effect, whose port keeps the edges of select. -/
theorem abandonExecution {s} (h : Both P s) : P (Machine.abandonExecution s) := by
  unfold Machine.abandonExecution
  split
  · exact h.1
  · rename_i x hx
    exact k.pending s.pending _ (k.port { s.port with drainSet := x.port.drainSet, drained := x.port.drained } _ (by rfl)
      (by rfl) (h.2 x hx))

theorem both_startReset {r s} (h : Both P s) : Both P (Machine.startReset r s) :=
  both_of_none (k.startReset (k.abandonExecution h)) (startReset_unexecuted r s)

theorem both_completeReset {a s} (h : Both P s) : Both P (Machine.completeReset a s) := by
  refine ⟨k.completeReset h.1, ?_⟩
  unfold Machine.completeReset
  split
  · split
    · exact h.2
    · intro x hx
      simp [afterReset, lineFromPin, State.reset] at hx
  · exact h.2

/-- The commands of the port that are not plain requests. -/
theorem execPort {c s} (h : Both P s)
    (hc : c = .transactionStart ∨ (∃ b n, c = .badFormat b n) ∨ c = .reset ∨ c = .executionComplete) :
    ∃ t, exec c s = .next t ∧ Both P t := by
  rcases hc with rfl | ⟨b, n, rfl⟩ | rfl | rfl
  · exact ⟨_, rfl, k.both_fallingEdge h⟩
  · exact ⟨_, rfl, k.both_transact (fun t ht => k.both_execute ht.1 ht.1) h⟩
  · refine ⟨_, rfl, k.both_transact (fun t ht => ?_) h⟩
    have h0 := k.both_startReset (r := ⟨.resetCommand, false⟩) ht
    revert h0
    generalize Machine.startReset ⟨.resetCommand, false⟩ t = u
    intro h0
    exact both_of_eq h0 (k.loose h0.1 rfl) rfl
  · exact ⟨_, rfl, k.both_completeExecution h⟩

/-- Every command answers a next state, and it keeps the property. -/
theorem exec_kept {s} (h : Both P s) (c : Instr) : ∃ t, exec c s = .next t ∧ Both P t := by
  cases c
  case transactionStart => exact k.execPort h (.inl rfl)
  case badFormat b n => exact k.execPort h (.inr (.inl ⟨b, n, rfl⟩))
  case reset => exact k.execPort h (.inr (.inr (.inl rfl)))
  case executionComplete => exact k.execPort h (.inr (.inr (.inr rfl)))
  case setShared => exact ⟨_, rfl, k.both_request (fun _ ht => k.setSharedEffect ht) h⟩
  case setOutlet => exact ⟨_, rfl, k.both_request (fun _ ht => k.setOutletEffect ht) h⟩
  case setLocal => exact ⟨_, rfl, k.both_request (fun _ ht => k.setLocalEffect ht) h⟩
  case join => exact ⟨_, rfl, k.both_request (fun _ ht => guardedBy k.beginJoin ht) h⟩
  case readEvent => exact ⟨_, rfl, k.both_request (fun _ ht => k.takeEvent _ ht) h⟩
  case clearFaults => exact ⟨_, rfl, k.both_request (fun _ ht => k.clearFaults _ _ ht) h⟩
  case clearSticky => exact ⟨_, rfl, k.both_request (fun _ ht => k.clearStickyEffect ht) h⟩
  case mark => exact ⟨_, rfl, k.both_request (fun _ ht => k.markEffect ht) h⟩
  case dormant => exact ⟨_, rfl, k.both_request (fun _ ht => k.dormantEffect ht) h⟩
  case outletOn => exact ⟨_, rfl, k.both_request (fun _ ht => k.outletOnEffect ht) h⟩
  case outletOff => exact ⟨_, rfl, k.both_request (fun _ ht => k.outletOffEffect ht) h⟩
  case outletClear => exact ⟨_, rfl, k.both_request (fun _ ht => k.outletClearEffect ht) h⟩
  case shed => exact ⟨_, rfl, k.both_request (fun _ ht => guardedBy (fun h => k.finish (k.demand h)) ht) h⟩
  case restore => exact ⟨_, rfl, k.both_request (fun _ ht => guardedBy (fun h => k.post h) ht) h⟩
  case leave => exact ⟨_, rfl, k.both_request (fun _ ht => guardedBy (fun h => k.finish (k.beginLeave h)) ht) h⟩
  case forget => exact ⟨_, rfl, k.both_request (fun _ ht => k.forgetEffect ht) h⟩
  case resync => exact ⟨_, rfl, k.both_request (fun _ ht => guardedBy (fun h => k.finish (k.enterResyncing h)) ht) h⟩
  case nop | readStatus | readOutlet | readRow | readWait | readStart | readPeer | readFaults =>
    exact ⟨_, rfl, k.both_request (fun _ ht => ht) h⟩
  case busIdle => exact k.actsOnBusOutsideReset (fun _ ht => unlessResetting (k.reachIdle ht) ht) h
  case startAttempt => exact k.actsOnBusOutsideReset (fun _ ht => k.beginAttempt ht) h
  case arbitrationLost =>
    exact k.actsOnBusOutsideReset (fun _ ht => unlessResetting (k.finish (k.loseArbitration ht)) ht) h
  case abortMark =>
    exact k.actsOnBusOutsideReset (fun _ ht => unlessResetting (k.finish (k.tie _ _ (k.failAttempt ht))) ht) h
  case formatError => exact k.actsOnBusOutsideReset (fun _ ht => unlessResetting (k.malformed ht) ht) h
  case frameVetoed => exact k.actsOnBusOutsideReset (fun _ ht => unlessResetting (k.frameDiscarded ht) ht) h
  case acceptShed | acceptRestore | acceptSnapshot | acceptRefuse | acceptJoin | acceptResync | acceptLeave
      | acceptForget | acceptStarted | acceptCancel | acceptRelease | acceptClaim | acceptPresence =>
    exact k.actsOnBus (fun _ ht => k.acceptFrame ht) h
  case snapshotWaitExpiry => exact k.actsOutsideReset (fun _ ht => k.finish (k.snapshotWaitExpires ht)) h
  case presenceTimerExpiry => exact k.actsOutsideReset (fun _ ht => k.presenceExpires ht) h
  case silenceTimeout => exact k.actsOutsideReset (fun _ ht => k.finish (k.losePeer ht)) h
  case muteResyncAttempt => exact k.actsOutsideReset (fun _ ht => k.muteAttempt ht) h
  case isolationTimerExpiry => exact k.actsOutsideReset (fun _ ht => k.isolationExpires ht) h
  case gapExpiry => exact k.actsOutsideReset (fun _ ht => k.finish (k.endGap ht)) h
  case settleTimerExpiry => exact k.actsOutsideReset (fun _ ht => k.finish (k.endSettle ht)) h
  case bleedExpiry => exact k.actsOutsideReset (fun _ ht => k.finish (k.endBleed ht)) h
  case settle => exact k.acts (fun _ ht => k.settleInput ht) h
  case trip => exact k.acts (fun _ ht => k.tripInput ht) h
  case shedPulse => exact k.acts (fun _ ht => k.fallFromReady ht) h
  case shedLineReady =>
    refine k.acts (fun _ ht => ?_) h
    split
    · exact k.shed _ _ ht
    · exact ht
  case pulseDriveEnd => exact k.acts (fun _ ht => k.shed _ _ ht) h
  case stepTimerExpiry => exact k.actsOutsideReset (fun _ ht => k.finish (k.endStep ht)) h
  case shedFrameWaitExpiry => exact k.actsOutsideReset (fun _ ht => k.endFrameWait ht) h
  case shedLineRise => exact k.acts (fun _ ht => k.riseOfLine ht) h
  case uncountedShedFall => exact k.acts (fun _ ht => k.fallWhileRecovering ht) h
  case railSagRise => exact k.acts (fun _ ht => k.railSagReading ht) h
  case railSagFall => exact k.acts (fun _ ht => k.railReading ht) h
  case reserveLowRise => exact k.acts (fun _ ht => k.reserveLowReading ht) h
  case reserveLowFall => exact k.acts (fun _ ht => k.reserveReading ht) h
  case pllLock => exact k.actsOutsideReset (fun _ ht => k.finish (k.pllLocks ht)) h
  case lockLimitExpiry => exact k.actsOutsideReset (fun _ ht => k.finish (k.lockFails ht)) h
  case lossOfLock => exact k.actsOutsideReset (fun _ ht => unlessResetting (k.finish (k.lockLost ht)) ht) h
  case crystalStop => exact k.actsOutsideReset (fun _ ht => k.finish (k.crystalStops ht)) h
  case oscillatorRunning => exact k.actsOutsideReset (fun _ ht => k.oscillatorRuns ht) h
  case powerOnReset => exact ⟨_, rfl, k.both_startReset h⟩
  case resetInput =>
    refine ⟨_, rfl, ?_⟩
    split
    · exact both_of_eq h (k.resetting _ _ h.1) rfl
    · exact k.both_startReset h
  case resetInputRelease =>
    refine ⟨_, rfl, ?_⟩
    split
    · exact both_of_eq h (k.resetting _ _ h.1) rfl
    · exact h
  case resetCompletion => exact ⟨_, rfl, k.both_completeReset h⟩

/-- Every step answers a next state, and it keeps the property. -/
theorem step_kept {s} (h : Both P s) : ∃ t, step s = .next t ∧ Both P t := by
  unfold step
  split
  · rename_i c rest _
    exact k.exec_kept (s := { s with pending := rest }) (both_of_eq h (k.pending rest s h.1) rfl) c
  · exact k.acts (fun _ ht => k.tick ht) h

end BlockKept

end Sys2Proof.Machine
end

