-- ==== Sys2Proof/Laws/Port.lean ====
section
/-!
SUPPORT. The two ends of a treatment: what a request does to a port that is ready, and that nothing is left to be done at the
end of a treatment in a settled state; the state check after reset.
-/
namespace Sys2Proof.Laws
open Sys2Proof.Machine Sys2Proof.Safety

/-- The state check that reset holds is that of the empty account. -/
theorem reset_check : checkOf .empty = emptyCheck := by decide +kernel

/-- The inrush mark of a settled state is right. -/
theorem updateInrush_settled {s : State} (h : s.rail.inrush = inrushOf s) : updateInrush s = s := by
  simp [updateInrush, h]

/-- A post into a place that is taken has no effect (R102). -/
theorem post_taken {item : QueueItem} {s : State} (h : placeFree (placeOf item) s = false) : post item s = s := by
  simp [post, h]

/-- A station posts no RESYNC while it waits for none, has an outlet in SOFT or finds the place taken. -/
theorem postWish_settled {s : State}
    (h : s.membership.station = .resyncing → s.membership.resyncWish ≠ .none →
      anySoft s = true ∨ placeFree .membership s = false) : postWish s = s := by
  unfold postWish
  by_cases hs : s.membership.station = .resyncing
  · by_cases hw : s.membership.resyncWish = .none
    · simp [hw]
    · rcases h hs hw with h' | h' <;> simp [h']
  · simp [hs]

/-- A station posts no duty frame while it has no duty or finds the place taken. -/
theorem postDuty_settled {s : State}
    (h : s.membership.station = .synced → (∃ n : StationNum, s.membership.peers[n].duty ≠ .none) →
      placeFree .snapshot s = false) : postDuty s = s := by
  unfold postDuty
  by_cases hs : s.membership.station = .synced
  · rw [if_neg (by simp [hs])]
    cases hf : allStations.find? fun n => s.membership.peers[n].duty != .none with
    | none => rfl
    | some n =>
      have hn : s.membership.peers[n].duty ≠ .none := by simpa using List.find?_some hf
      have hp := h hs ⟨n, hn⟩
      dsimp only
      split <;> exact post_taken hp
  · simp [hs]

/-- Nothing is left to be done at the end of a treatment in a settled state. -/
theorem finish_settled {s : State} (h : Settled s) : finish s = s := by
  obtain ⟨h1, h2, h3, h4⟩ := h
  rw [finish, updateInrush_settled h1, postWish_settled h3, postDuty_settled h4]
  simp [escalate, h2]

/-- The port as a request of a ready port finds it at its execution. -/
def capturing (bytes : List Byte) (s : State) : State :=
  let t := ensureSelected s
  { t with port := { t.port with selectLow := false, discard := false, receiveBuffer := bytes } }

/-- A ready port executes a transaction's request. -/
theorem transact_ready {bytes : List Byte} {execute : State → State} {s : State} (h : Ready s) :
    transact bytes execute s = execute (capturing bytes s) := by
  obtain ⟨h1, h2, h3, h4⟩ := h
  unfold transact capturing ensureSelected
  by_cases hl : s.port.selectLow = true
  · simp [hl, h4 hl]
  · simp only [Bool.not_eq_true] at hl
    simp [hl, fallingEdge, h1, h2, h3]

/-- A ready port executes a request and sets the execution-busy flag with its answer. -/
theorem request_ready {code : Byte} {args : List Byte} {effect : State → State × Answer} {s : State} (h : Ready s) :
    request code args effect s = execute code effect (capturing (code :: BitVec.ofNat 8 args.length :: args) s) := by
  rw [request, transact_ready h]

/-- A ready port that captures a request changes nothing but itself. -/
theorem capturing_ready {bytes : List Byte} {s : State} (h : Ready s) :
    capturing bytes s = { s with port := (capturing bytes s).port } := by
  obtain ⟨h1, h2, h3, _⟩ := h
  unfold capturing ensureSelected
  by_cases hl : s.port.selectLow = true
  · simp [hl]
  · simp only [Bool.not_eq_true] at hl
    simp [hl, fallingEdge, h1, h2, h3]

/-- What the port remembers stands while a ready port captures a request. -/
theorem capturing_memory {bytes : List Byte} {s : State} (h : Ready s) : SamePortMemory s (capturing bytes s) := by
  obtain ⟨h1, h2, h3, _⟩ := h
  unfold capturing ensureSelected
  by_cases hl : s.port.selectLow = true
  · simp [hl, SamePortMemory]
  · simp only [Bool.not_eq_true] at hl
    simp [hl, fallingEdge, h1, h2, h3, SamePortMemory]

end Sys2Proof.Laws
end

