-- ==== Sys2Proof/Tests/Slice0.lean ====
section
/-!
SUPPORT. The author's own tests: ill-formed commands are refused, the CRC and stuffing of the manual, its worked examples of
the account, and for every statement with hypotheses a state and operands that meet them, clause by clause.
-/
namespace Sys2Proof.Tests
open Sys2Proof.Machine Sys2Proof.Safety

set_option Elab.async false

/-! ## Well-formedness: one ill-formed command for each check -/

/-- A snapshot with nothing in it. -/
def emptyContent : SnapshotContent :=
  { digest := 7#16, shedLevel := 0#8, members := 0#16, rows := [], wait := [], start := [], check := 0#16 }

/-- An entry of a frame. -/
def anEntry : WireEntry := ⟨1, 0, 3, 5, 0⟩

/-- A row of a frame. -/
def aRow : WireRow := ⟨1#8, Vector.ofFn fun _ => 0⟩

theorem test_wellFormed_refuses_good_request_as_malformed : (Instr.badFormat [0#8, 0#8] 0).wellFormed = false := by
  decide +kernel

theorem test_wellFormed_refuses_request_without_bits : (Instr.badFormat [] 0).wellFormed = false := by decide +kernel

theorem test_wellFormed_takes_broken_byte : (Instr.badFormat [0#8, 0#8] 3).wellFormed = true := by decide +kernel

theorem test_wellFormed_refuses_short_payload : (Instr.frameVetoed ⟨1, 0, 2, [0#8], 0#16⟩).wellFormed = false := by
  decide +kernel

theorem test_wellFormed_refuses_seventeen_rows :
    (Instr.acceptSnapshot 0 1#8 { emptyContent with rows := List.replicate 17 aRow }).wellFormed = false := by decide +kernel

theorem test_wellFormed_refuses_long_wait_list :
    (Instr.acceptSnapshot 0 1#8 { emptyContent with wait := List.replicate 33 anEntry }).wellFormed = false := by
  decide +kernel

theorem test_wellFormed_refuses_long_start_queue :
    (Instr.acceptSnapshot 0 1#8 { emptyContent with start := List.replicate 33 anEntry }).wellFormed = false := by
  decide +kernel

theorem test_wellFormed_refuses_nine_declared_entries :
    (Instr.acceptResync 0 { digest := 0#16, bins := Row.zero, entries := List.replicate 9 anEntry }).wellFormed = false := by
  decide +kernel

/-! ## The CRC and the stuffing (R85, R199) -/

theorem test_crc_of_the_nine_digits :
    crcOfBits (bitsOfBytes [0x31#8, 0x32#8, 0x33#8, 0x34#8, 0x35#8, 0x36#8, 0x37#8, 0x38#8, 0x39#8]) = 0x29b1#16 := by
  decide +kernel

theorem test_stuffing_of_a_restore_header :
    stuff (false :: (bitsMsb 4 1 ++ bitsMsb 4 0 ++ bitsMsb 9 0))
      = [false, false, false, false, true, false, false, false, false, false, false, true,
         false, false, false, false, false, false, true, false] := by decide +kernel

theorem test_unstuffing_and_seventh_bit :
    unstuff (stuff (false :: (bitsMsb 4 1 ++ bitsMsb 4 0 ++ bitsMsb 9 0)))
        = some (false :: (bitsMsb 4 1 ++ bitsMsb 4 0 ++ bitsMsb 9 0))
      ∧ unstuff (List.replicate 7 true) = none ∧ unstuff (List.replicate 6 true) = some (List.replicate 6 true) := by
  decide +kernel

theorem test_bit_times : (List.range 5).map bitClocks = [48, 96, 192, 384, 768] ∧ sampleClocks 0 = [20, 24, 28]
    ∧ sampledBit true false true = true ∧ sampledBit false false true = false := by decide +kernel

theorem test_meets_FramesAreReadAsSent :
    carriable (.snapshot 1#8 { emptyContent with
        rows := List.replicate 16 aRow, wait := List.replicate 32 anEntry, start := List.replicate 32 anEntry }) = true
      ∧ carriable (.resync { digest := 7#16, bins := Row.zero, entries := List.replicate 8 anEntry }) = true
      ∧ carriable .leave = true := by decide +kernel

/-! ## The worked examples of the account (1.10, 2.10) -/

/-- A row with one bin. -/
def oneBin (p : Prio) (u : Units) : Row := Row.zero.set p u

/-- The settings of 1.10. -/
def exampleSettings : SharedSettings :=
  { capacity := 100, headroom := 20, essential := 6, cap := 60, slots := 2, order := .fit }

/-- The replica of 1.10. -/
def exampleReplica : Replica :=
  { Replica.empty with
    members := 0x000e#16
    rows := (Replica.empty.rows.set 1 (oneBin 3 30)).set 2 (oneBin 7 40)
    start := [⟨2, 4, 7, 40⟩]
    wait := [⟨1, 2, 2, 15⟩, ⟨2, 1, 6, 25⟩, ⟨3, 0, 4, 10⟩, ⟨1, 5, 7, 20⟩] }

theorem test_pass_of_section_1_10 :
    (admissionPass exampleSettings exampleReplica).wait = [⟨1, 2, 2, 15⟩, ⟨2, 1, 6, 25⟩]
      ∧ (admissionPass exampleSettings exampleReplica).start = [⟨2, 4, 7, 40⟩, ⟨3, 0, 4, 10⟩, ⟨1, 5, 7, 20⟩]
      ∧ accountTotal (admissionPass exampleSettings exampleReplica) = 100
      ∧ admissionPass { exampleSettings with order := .strict } exampleReplica = exampleReplica := by decide +kernel

/-- The nine frames of 2.10. -/
def nineFrames : List TieFrame :=
  [⟨2, .claim 0#8 3 40⟩, ⟨5, .claim 1#8 2 30⟩, ⟨9, .claim 4#8 1 20⟩, ⟨9, .claim 6#8 7 15⟩, ⟨5, .claim 3#8 4 90⟩,
   ⟨2, .started 0#8⟩, ⟨5, .started 1#8⟩, ⟨2, .release 0#8 3 40⟩, ⟨9, .cancel 6#8⟩]

/-- The account after the first frames of 2.10. -/
def afterFrames (order : WaitOrder) (n : Nat) : Replica :=
  (nineFrames.take n).foldl (fun r f =>
      (accountChange { capacity := 100, headroom := 20, essential := 6, order := order } none r f).replica)
    { Replica.empty with members := 0x0224#16 }

theorem test_strict_account_of_section_2_10 :
    (List.range 10).map (fun n => accountTotal (afterFrames .strict n)) = [0, 40, 70, 70, 70, 70, 70, 70, 65, 50]
      ∧ (afterFrames .strict 7).start = [] ∧ (afterFrames .strict 7).wait = [⟨9, 4, 1, 20⟩, ⟨9, 6, 7, 15⟩]
      ∧ (afterFrames .strict 8).start = [⟨9, 4, 1, 20⟩, ⟨9, 6, 7, 15⟩]
      ∧ (afterFrames .strict 9).start = [⟨9, 4, 1, 20⟩] := by decide +kernel

theorem test_fit_account_of_section_2_10 :
    (List.range 10).map (fun n => accountTotal (afterFrames .fit n)) = [0, 40, 70, 70, 85, 85, 85, 85, 65, 50]
      ∧ (afterFrames .fit 8).start = [⟨9, 6, 7, 15⟩, ⟨9, 4, 1, 20⟩] ∧ afterFrames .fit 9 = afterFrames .strict 9 := by
  decide +kernel

/-! ## Small states -/

/-- The state after reset, in a station state. -/
def at' (st : StationState) : State :=
  { State.reset with number := 3, membership := { State.reset.membership with station := st } }

/-- A station with the tie interface ACTIVE. -/
def active (st : StationState) : State := { at' st with tie := { (at' st).tie with mode := .active } }

/-- One outlet record of a station set. -/
def withOutlet (x : Outlet) (s : State) : State := { s with outlets := s.outlets.set 0 x }

/-- A posted frame. -/
def one (item : QueueItem) (failed : Fin 4) : Posted := { seq := 0, item := item, failed := failed }

/-- A station with one frame posted. -/
def posting (item : QueueItem) (failed : Fin 4) (s : State) : State :=
  { s with tie := { s.tie with queue := [one item failed], nextSeq := 1 } }

/-- A station with one frame posted and in flight. -/
def sending (item : QueueItem) (failed : Fin 4) (f : TieFrame) (s : State) : State :=
  { s with tie := { (posting item failed s).tie with tx := some { seq := 0, frame := f, wire := [] } } }

/-- A JOINING or RESYNCING station that awaits a snapshot of digest 7. -/
def awaiting (st : StationState) : State :=
  let s := active st
  { s with
    settings := { s.settings with digest := some 7#16 }
    membership := { s.membership with awaiting := true, snapshotWait := some 100 } }

/-- A snapshot of the account that holds station 3 alone. -/
def soundContent : SnapshotContent :=
  snapshotOf 7#16 (checkOf { Replica.empty with members := 8#16 }) { Replica.empty with members := 8#16 }

/-- Station 1 LOST. -/
def lostPeer (s : State) : State :=
  { s with membership := { s.membership with peers := s.membership.peers.set 1 { presence := .lost } } }

/-- What a command leads to. -/
def after (c : Instr) (s : State) : State :=
  match exec c s with
  | .next t => t
  | _ => s

/-- The status and data of the answer that a request forms. -/
def answerOf (c : Instr) (s : State) : Option (Status × List Byte) :=
  ((after c s).port.executing.bind Execution.response).map fun r => (r.status, r.data)

/-- The states of the first outlets after a command. -/
def statesAfter (n : Nat) (c : Instr) (s : State) : List OutletState := ((after c s).outlets.toList.take n).map Outlet.state

/-! ## Small states that obey every law -/

/-- An enabled outlet of weight 5 and priority 3, its timers running as its state and path have it. -/
def outlet (st : OutletState) (path : OutletPath := .allOpen) (held : Option HeldAs := none) : Outlet :=
  { config := { enabled := true, weight := 5, priority := 3, reserveAllowed := true, autoReclaim := true }
    state := st, path := path, heldAs := held
    gap := if st = .soft ∧ path = .allOpen then some 1 else none
    settle := if st = .soft ∧ path = .weak then some 9 else none
    bleed := if st ≠ .soft ∧ path = .weak then some 9 else none }

/-- Station 3 in an account with station 1, of capacity 100, 50 reserve units and one slot: its entries and its outlets. -/
def steady (st : StationState) (start wait : List Entry) (outlets : List Outlet) : State :=
  let r : Replica := { Replica.empty with members := 0x000a#16, start := start, wait := wait }
  let s := active st
  { s with
    replica := r, check := checkOf r
    rail := { s.rail with inrush := !start.isEmpty }
    clock := { s.clock with pll := .locked }
    settings := { s.settings with
      digest := some 7#16, shared := { s.settings.shared with capacity := 100 }
      station := { s.settings.station with reserveUnits := 50 } }
    membership := { s.membership with
      presenceTimer := if st = .synced then some 9 else none
      muteTimer := if st = .mute then some 9 else none, isolationTimer := if st = .mute then some 9 else none
      peers := (s.membership.peers.set 1 { presence := .present }).set 3 { presence := .self } }
    outlets := Vector.ofFn fun o => { outlets.getD o.val {} with standing := standingOf 1 r 3 o } }

/-- Frames posted in a row, the first of them in flight as composed. -/
def flyingFirst (items : List QueueItem) (s : State) : State :=
  let queue : List Posted := items.zipIdx.map fun x => { seq := x.2, item := x.1 }
  { s with tie := { s.tie with
      queue := queue, nextSeq := 9
      tx := queue.head?.map fun q => { seq := q.seq, frame := ⟨s.number, composeBody s q⟩, wire := [] } } }

/-- The laws of the report unit can be decided. -/
def decideReport (s : State) : Decidable (reportLawful s) :=
  haveI : Decidable (∀ f, s.report.first = some f → namesFault s.report.status f = true) :=
    inferInstanceAs (Decidable (∀ f ∈ s.report.first, namesFault s.report.status f = true))
  inferInstanceAs (Decidable (_ ∧ _ ∧ _))

/-- The places of the queue are these. -/
theorem forall_place (P : Place → Prop) :
    (P .membership ∧ P .presence ∧ P .shed ∧ P .snapshot ∧ ∀ o, P (.outlet o)) ↔ ∀ p, P p :=
  ⟨fun h p => match p with
    | .membership => h.1 | .presence => h.2.1 | .shed => h.2.2.1 | .snapshot => h.2.2.2.1 | .outlet o => h.2.2.2.2 o,
   fun h => ⟨h _, h _, h _, h _, fun _ => h _⟩⟩

/-- The laws of the tie interface can be decided. -/
def decideTie (s : State) : Decidable (tieLawful s) := by
  delta tieLawful
  infer_instance

/-- The laws of the account can be decided. -/
def decideAccount (r : Replica) : Decidable (listsBounded r ∧ nothingBelowShed r ∧ onlyMembersHold r ∧ noPairTwice r) := by
  delta listsBounded nothingBelowShed onlyMembersHold noPairTwice
  infer_instance

/-- The laws of the outlets can be decided. -/
def decideOutlets (s : State) : Decidable (outletsLawful s ∧ switchesLawful s) := by
  haveI (x : Outlet) : Decidable (outletLawful x) := by delta outletLawful; infer_instance
  haveI : Decidable (outletsLawful s) := by delta outletsLawful; infer_instance
  haveI : Decidable (switchesLawful s) := by delta switchesLawful allSwitchesOpen reserveWithin; infer_instance
  infer_instance

/-- The laws of the send queue can be decided. -/
def decideQueue (s : State) : Decidable (queueLawful s ∧ postedLawful s ∧ tieLawful s) := by
  haveI := decideTie s
  haveI : Decidable (∀ p, placeTaken p s ≤ placeSize p) := decidable_of_iff _ (forall_place fun p => placeTaken p s ≤ placeSize p)
  haveI : Decidable (queueLawful s) := by delta queueLawful; infer_instance
  haveI : Decidable (postedLawful s) := by
    delta postedLawful
    exact @instDecidableAnd _ _ inferInstance (@instDecidableAnd _ _ inferInstance inferInstance)
  infer_instance

/-- The laws of the shed unit, the membership unit and the clock can be decided. -/
def decideUnits (s : State) :
    Decidable (shedLawful s ∧ peersLawful s ∧ waitsLawful s ∧ clockLawful s ∧ quietLawful s) := by
  haveI : Decidable (shedLawful s) := by delta shedLawful; infer_instance
  haveI : Decidable (peersLawful s) := by delta peersLawful; infer_instance
  haveI : Decidable (waitsLawful s) := by delta waitsLawful; dsimp only; infer_instance
  haveI : Decidable (clockLawful s) := by delta clockLawful; infer_instance
  haveI : Decidable (quietLawful s) := by delta quietLawful; infer_instance
  infer_instance

/-- The laws of every unit can be decided. -/
def decideLawful (s : State) : Decidable (Lawful s) := by
  haveI : Decidable (checkLawful s ∧ reportLawful s ∧ stickyLawful s ∧ drainLawful s) := by
    haveI := decideReport s
    delta checkLawful stickyLawful drainLawful
    infer_instance
  haveI := decideAccount s.replica
  haveI := decideOutlets s
  haveI := decideQueue s
  haveI := decideUnits s
  infer_instance

/-- A state that passes the check obeys every law. -/
theorem lawful_of (s : State) (h : @decide (Lawful s) (decideLawful s) = true) : Lawful s :=
  @of_decide_eq_true _ (decideLawful s) h

/-- A state that passes the check is steady. -/
theorem steady_of (s : State) (h : @decide (Lawful s) (decideLawful s) = true)
    (r : s.resetting = none ∧ railLow s = false ∧ DefaultSeverity s) : Steady s := ⟨lawful_of s h, r⟩

/-- A state that passes the check is calm. -/
theorem calm_of (s : State) (h : @decide (Lawful s) (decideLawful s) = true)
    (r : s.resetting = none ∧ railLow s = false) : Calm s := ⟨lawful_of s h, r⟩

/-- Every fault written fatal, as far as the settings take it (R188). -/
def fatally (s : State) : State :=
  { s with settings := { s.settings with station := { s.settings.station with severity := 0xfffd#16 } } }

/-- Whether a command isolates a station with its replica as it was, and the records then are these. -/
def isolatesWith (c : Instr) (s : State) (records : List EventRecord) : Bool :=
  decide (Isolated s.replica s (after c s)) && (after c s).report.events == records

/-- OVERCOMMIT written fatal, and no other fault. -/
def mildly (s : State) : State :=
  { s with settings := { s.settings with station := { s.settings.station with severity := 0x9090#16 } } }

/-! ## The hypotheses of the statements are met -/

theorem test_meets_StepRunsFrontCommand : { State.reset with pending := [.nop, .mark] }.pending = .nop :: [.mark] := by
  decide +kernel

/-- A station with one event due at the next tick: the changeover gap of outlet 0. -/
def ticking : State := withOutlet (outlet .soft) (at' .synced)

/-- The sense inputs of a station set. -/
def sensing (rail cell : Nat) (s : State) : State := { s with pins := { s.pins with railSense := rail, reserveSense := cell } }

theorem test_meets_StepOnEmptyQueue :
    State.reset.pending = [] ∧ { State.reset.clock with running := false }.running = false
      ∧ { State.reset with resetting := some ⟨.powerOn, false⟩ }.resetting ≠ none
      ∧ (∀ s ∈ [ticking, at' .dormant, sensing 759 849 ticking],
          s.pending = [] ∧ s.clock.running = true ∧ s.resetting = none)
      ∧ (at' .dormant).membership.station = .dormant
      ∧ (sensing 759 849 ticking).pins.railSense < 600 + 20 * ticking.settings.station.railThreshold.val
      ∧ ¬760 < 600 + 20 * ticking.settings.station.railThreshold.val
      ∧ ticking.rail.live = false ∧ { ticking.rail with live := true }.live = true
      ∧ allDueEvents.filter (eventDue (readMonitors 1 (advanceTimers ticking))) = [.gap 0] := by decide +kernel

theorem test_tick_ends_the_gap :
    (match step ticking with
      | .next t => (t.outlets[0].state, t.outlets[0].path, t.outlets[0].settle)
      | _ => (.off, .full, none)) = (.soft, .weak, some 50) := by decide +kernel

/-- A station in MUTE, JOINING or any state, every timer at 0. -/
def allDue (st : StationState) : State :=
  let s := withOutlet { outlet .soft with gap := some 0, settle := some 0, bleed := some 0 } (active st)
  { s with
    membership := { s.membership with
      snapshotWait := some 0, presenceTimer := some 0, muteTimer := some 0, isolationTimer := some 0
      peers := s.membership.peers.set 1 { presence := .present, silence := 400 } }
    clock := { s.clock with lockLimit := some 0 }
    shed := { s.shed with stepTimer := some 0, frameWait := some 0 } }

theorem test_meets_DueEventsActAsRows :
    (∀ e ∈ [DueEvent.gap 0, .settle 0, .bleed 0, .presence, .silence 1, .mute, .isolation, .lockLimit, .step, .frameWait],
        (allDue .synced).resetting = none ∧ eventDue (allDue .synced) e = true ∧ e ≠ .snapshotWait)
      ∧ eventDue (allDue .synced) (.gap 1) = false ∧ eventDue (allDue .synced) .railSag = false
      ∧ eventDue { sensing 0 0 (allDue .synced) with rail := { count := 4 }, reserve := { count := 2 } } .railSag = true
      ∧ eventDue { sensing 0 0 (allDue .synced) with rail := { count := 4 }, reserve := { count := 2 } } .reserveLow = true
      ∧ (allDue .joining).membership.snapshotWait = some 0 ∧ (allDue .joining).tie.receiving = false
      ∧ canReceive (allDue .joining) = true ∧ canReceive (sending .leave 0 ⟨3, .leave⟩ (allDue .joining)) = false := by
  decide +kernel

/-- A station that executes a request. -/
def busy : State :=
  { at' .synced with port := { (at' .synced).port with executing := some ⟨3#8, some .idle⟩ } }

theorem test_meets_FallingEdgeLoadsResponse :
    (at' .synced).resetting = none ∧ (at' .synced).membership.station ≠ .dormant ∧ busy.port.executing ≠ none
      ∧ (at' .synced).port.lastResponse = none
      ∧ { (at' .synced).port with lastResponse := some .idle }.lastResponse = some .idle
      ∧ (at' .synced).port.selectLow = false ∧ (after .transactionStart (at' .synced)).port.selectLow = true
      ∧ (after .transactionStart (at' .synced)).port.responseBuffer = some .idle
      ∧ (after .transactionStart { State.reset with resetting := some ⟨.powerOn, false⟩ }).port.responseBuffer = none := by
  decide +kernel

/-- Requests during a reset are discarded; while a RESET is in execution the host reads NOT_READY with its code. -/
theorem test_meets_port_statements_during_a_reset :
    let s := after .reset (at' .synced)
    s.resetting ≠ none ∧ s.port.executing = some ⟨16#8, none⟩ ∧ s.port.selectLow = false ∧ (requestOf .mark).isSome
      ∧ (after .transactionStart s).port.responseBuffer = some ⟨.notReady, 16#8, []⟩
      ∧ (after .transactionStart s).port.discard = true
      ∧ (after .mark s).port.executing = some ⟨16#8, none⟩ ∧ (after .mark s).port.drained = s.port.drained := by
  decide +kernel

theorem test_data_out_is_the_record_then_ones :
    let s : State := { at' .synced with port := { (at' .synced).port with lastResponse := some ⟨.refusedState, 14#8, [7#8]⟩ } }
    (List.range 5).map (fun k => dataOutByte k (after .transactionStart s))
        = [some 3#8, some 14#8, some 1#8, some 7#8, some 255#8]
      ∧ (List.range 8).map (fun k => dataOutBit (k + 8) (after .transactionStart s))
        = [some false, some false, some false, some false, some true, some true, some true, some false]
      ∧ dataOutByte 0 s = none := by decide +kernel

theorem test_meets_ExecutionsAndRequestsTurnedAway :
    Ready (at' .config) ∧ (requestOf .mark).isSome ∧ busy.resetting = none ∧ busy.membership.station ≠ .dormant
      ∧ busy.port.executing = some ⟨3#8, some .idle⟩ ∧ busy.port.selectLow = false
      ∧ { busy.port with selectLow := true, discard := true }.discard = true ∧ (at' .config).port.executing = none
      ∧ { busy.port with executing := some ⟨16#8, none⟩ }.executing = some ⟨16#8, none⟩ := by decide +kernel

/-- A station with a rail sag and a low cell. -/
def sagging : State :=
  { at' .synced with
    rail := { count := 4, live := true, sticky := true }, reserve := { count := 2, live := true, sticky := true } }

theorem test_meets_port_statements :
    Ready State.reset ∧ Ready { at' .synced with port := { (at' .synced).port with selectLow := true } }
      ∧ Ready sagging ∧ sagging.rail.live = true ∧ (at' .synced).rail.live = false
      ∧ { sagging with rail := {} }.rail.live = false ∧ { sagging with rail := {} }.reserve.live = true := by decide +kernel

theorem test_meets_RecordsAndArguments :
    Ready (at' .config) ∧ (at' .config).settings.awaitingLock = false ∧ Ready (at' .synced) ∧ Settled (at' .config)
      ∧ Ready { at' .config with settings := { (at' .config).settings with awaitingLock := true } }
      ∧ 8 ≤ (8#8).toNat ∧ 16 ≤ (16#8).toNat ∧ 3 ≤ (3#8).toNat ∧ 2 ≤ (2#8).toNat
      ∧ (checkShared ⟨100#16, 99#16, 8#8, 100#16, 4#8, 1#8, 4#8, 1000#16, 20#16⟩).isSome
      ∧ (checkOutlet ⟨7#8, 7#8, 4095#16, 7#8, 250#8, 250#8⟩).isSome
      ∧ (checkLocal ⟨255#8, 1#8, 15#8, 15#8, 60#8, 500#16, 3#8, 31#8, 0xffff#16, 0#16⟩).isSome
      ∧ (checkOutlet ⟨7#8, 8#8, 4095#16, 7#8, 250#8, 250#8⟩).isSome = false := by decide +kernel

theorem test_shared_record_ranges :
    (∀ r ∈ [(⟨4095, 4094, 8, 4095, 4, 1, 4, 1000, 500⟩ : RawShared), ⟨0, 0, 0, 0, 1, 0, 0, 10, 20⟩, ⟨1, 0, 0, 1, 1, 0, 0, 10, 20⟩],
        (checkShared r).isSome = true)
      ∧ ∀ r ∈ [(⟨4096, 0, 0, 0, 1, 0, 0, 10, 20⟩ : RawShared), ⟨100, 100, 0, 0, 1, 0, 0, 10, 20⟩, ⟨0, 1, 0, 0, 1, 0, 0, 10, 20⟩,
          ⟨1, 0, 9, 0, 1, 0, 0, 10, 20⟩, ⟨1, 0, 0, 2, 1, 0, 0, 10, 20⟩, ⟨1, 0, 0, 0, 0, 0, 0, 10, 20⟩,
          ⟨1, 0, 0, 0, 5, 0, 0, 10, 20⟩, ⟨1, 0, 0, 0, 1, 2, 0, 10, 20⟩, ⟨1, 0, 0, 0, 1, 0, 5, 10, 20⟩,
          ⟨1, 0, 0, 0, 1, 0, 0, 9, 20⟩, ⟨1, 0, 0, 0, 1, 0, 0, 1001, 20⟩, ⟨1, 0, 0, 0, 1, 0, 0, 10, 19⟩,
          ⟨1, 0, 0, 0, 1, 0, 0, 10, 501⟩], checkShared r = none := by decide +kernel

theorem test_outlet_record_ranges :
    (∀ r ∈ [(⟨7, 7, 4095, 7, 250, 250⟩ : RawOutlet), ⟨0, 0, 1, 0, 1, 1⟩], (checkOutlet r).isSome = true)
      ∧ ∀ r ∈ [(⟨8, 0, 1, 0, 1, 1⟩ : RawOutlet), ⟨0, 8, 1, 0, 1, 1⟩, ⟨0, 0, 0, 0, 1, 1⟩, ⟨0, 0, 4096, 0, 1, 1⟩, ⟨0, 0, 1, 8, 1, 1⟩,
          ⟨0, 0, 1, 0, 0, 1⟩, ⟨0, 0, 1, 0, 251, 1⟩, ⟨0, 0, 1, 0, 1, 0⟩, ⟨0, 0, 1, 0, 1, 251⟩], checkOutlet r = none := by
  decide +kernel

theorem test_local_record_ranges :
    (∀ r ∈ [(⟨255, 1, 15, 15, 60, 500, 3, 31, 0xffff, 0xffff⟩ : RawLocal), ⟨0, 0, 0, 1, 1, 10, 0, 0, 0, 0⟩],
        (checkLocal r).isSome = true)
      ∧ ∀ r ∈ [(⟨0, 2, 0, 1, 1, 10, 0, 0, 0, 0⟩ : RawLocal), ⟨0, 0, 16, 1, 1, 10, 0, 0, 0, 0⟩, ⟨0, 0, 0, 0, 1, 10, 0, 0, 0, 0⟩,
          ⟨0, 0, 0, 16, 1, 10, 0, 0, 0, 0⟩, ⟨0, 0, 0, 1, 0, 10, 0, 0, 0, 0⟩, ⟨0, 0, 0, 1, 61, 10, 0, 0, 0, 0⟩,
          ⟨0, 0, 0, 1, 1, 9, 0, 0, 0, 0⟩, ⟨0, 0, 0, 1, 1, 501, 0, 0, 0, 0⟩, ⟨0, 0, 0, 1, 1, 10, 4, 0, 0, 0⟩,
          ⟨0, 0, 0, 1, 1, 10, 0, 32, 0, 0⟩], checkLocal r = none := by decide +kernel

/-- A configured station. -/
def configured : State :=
  let s := at' .config
  { s with settings := { s.settings with shared := { s.settings.shared with capacity := 1 } } }

theorem test_meets_JoinSealsAndBegins :
    Ready configured ∧ Settled configured ∧ DefaultSeverity configured ∧ configured.membership.station = .config
      ∧ configured.settings.awaitingLock = false ∧ configured.settings.shared.capacity ≠ 0
      ∧ anyOversize configured = false ∧ placeFree .membership configured = true ∧ configured.clock.pll ≠ .locked
      ∧ { configured.clock with pll := .locked }.pll = .locked ∧ configured.tie.mode = .off
      ∧ { configured.tie with mode := .active }.rate = configured.settings.shared.rate
      ∧ { configured.tie with rate := 3 }.rate ≠ configured.settings.shared.rate := by decide +kernel

/-- A station that awaits lock. -/
def awaitingLock (s : State) : State := { s with settings := { s.settings with awaitingLock := true } }

theorem test_join_refused_in_order :
    (∀ s ∈ [at' .synced, awaitingLock (at' .config), at' .config, withOutlet (outlet .off) configured, posting .leave 0 configured],
        Ready s)
      ∧ answerOf .join (at' .synced) = some (.refusedState, [0#8])
      ∧ answerOf .join (awaitingLock (at' .config)) = some (.busy, [])
      ∧ answerOf .join (at' .config) = some (.refusedState, [6#8])
      ∧ answerOf .join (withOutlet (outlet .off) configured) = some (.badArgument, [])
      ∧ (configured.settings.shared.capacity.val < (outlet .off).config.weight.val)
      ∧ answerOf .join (posting .leave 0 configured) = some (.busy, []) := by decide +kernel

theorem test_dormant_refused :
    answerOf (.dormant 1#8) (at' .synced) = some (.refusedState, [0#8])
      ∧ (∀ s ∈ [awaitingLock (at' .config), posting .leave 0 (at' .config), posting .leave 0 (at' .refused)],
          Ready s ∧ answerOf (.dormant 1#8) s = some (.busy, [])) := by decide +kernel

theorem test_meets_DormantAndWake :
    Ready (at' .config) ∧ Ready (at' .refused) ∧ (at' .refused).membership.station = .refused
      ∧ (at' .config).settings.awaitingLock = false ∧ (at' .config).tie.queue = []
      ∧ (at' .dormant).resetting = none ∧ Settled (at' .dormant) ∧ DefaultSeverity (at' .dormant)
      ∧ (at' .dormant).clock.running = true ∧ { (at' .dormant).clock with running := false }.running = false := by
  decide +kernel

theorem test_meets_OutletOnClaims :
    ∀ x ∈ [outlet .off, outlet .shed, outlet .shed .reserve, outlet .shed .weak],
      let s := withOutlet x (at' .synced)
      Ready s ∧ Settled s ∧ DefaultSeverity s ∧ s.outlets[0].state = x.state ∧ s.outlets[0].config.enabled = true
        ∧ s.replica.shedLevel.val ≤ s.outlets[0].config.priority.val ∧ placeFree (.outlet 0) s = true
        ∧ s.pins.trip.getLsbD 0 = false := by decide +kernel

/-- A SYNCED station with 5 reserve units, at a shed level, its outlet 0 as given. -/
def onReserve (level : Level) (x : Outlet) : State :=
  let s := withOutlet x (at' .synced)
  { s with
    replica := { s.replica with shedLevel := level }
    settings := { s.settings with station := { s.settings.station with reserveUnits := 5 } } }

theorem test_outlet_on_from_shed :
    (∀ x ∈ [(outlet .off, OutletPath.reserve), (outlet .shed, .reserve), (outlet .shed .reserve, .reserve),
        (outlet .shed .weak, .allOpen)],
      (after (.outletOn 0#8) (onReserve 3 x.1)).outlets[0].state = .queued
        ∧ (after (.outletOn 0#8) (onReserve 3 x.1)).outlets[0].path = x.2)
      ∧ (let s := onReserve 3 (outlet .off)
         let t := after (.outletOn 0#8) { s with pins := { s.pins with trip := 1#8 } }
         t.outlets[0].state = .fault ∧ t.tie.queue = []) := by decide +kernel

/-- A station that obeys every law, the trip input of outlet 0 asserted as its reserve switch closes. -/
theorem test_meets_OutletOnClaims_tripped :
    let s := steady .synced [] [] [outlet .off]
    let s : State := { s with pins := { s.pins with trip := 1#8 } }
    Lawful s ∧ Ready s ∧ DefaultSeverity s ∧ s.outlets[0].state = .off
      ∧ isPosted (isClaimOf 0) (after (.outletOn 0#8) s) = false :=
  ⟨lawful_of _ (by decide +kernel), by decide +kernel⟩

theorem test_outlet_on_refused :
    answerOf (.outletOn 0#8) (at' .mute) = some (.badArgument, [])
      ∧ answerOf (.outletOn 0#8) (withOutlet (outlet .on .full) (at' .mute)) = some (.refusedState, [0#8])
      ∧ answerOf (.outletOn 0#8) (at' .synced) = some (.badArgument, [])
      ∧ answerOf (.outletOn 0#8) (onReserve 4 (outlet .shed)) = some (.refusedState, [2#8])
      ∧ (∀ x ∈ [outlet .stopping, outlet .cancelling], answerOf (.outletOn 0#8) (onReserve 0 x) = some (.busy, []))
      ∧ answerOf (.outletOn 0#8) (onReserve 0 (outlet .fault)) = some (.refusedState, [1#8])
      ∧ ∀ x ∈ [outlet .queued, outlet .waiting, outlet .admitted, outlet .soft, outlet .on .full, outlet .dropped],
          answerOf (.outletOn 0#8) (onReserve 4 x) = some (.ok, [])
            ∧ (after (.outletOn 0#8) (onReserve 4 x)).outlets[0] = x := by decide +kernel

theorem test_meets_OutletOffAndClear :
    (∀ st ∈ [OutletState.off, .queued, .waiting, .cancelling, .admitted, .soft, .on, .stopping, .dropped, .shed, .fault],
      let s := withOutlet (outlet st .reserve) (at' .synced)
      Ready s ∧ Settled s ∧ DefaultSeverity s ∧ s.outlets[0].state = st ∧ claimInFlight 0 s = false
        ∧ claimInFlight 0 (sending (.claim 0 3 5) 0 ⟨3, .leave⟩ s) = true)
      ∧ (∀ held ∈ [HeldAs.on, .soft], (withOutlet (outlet .dropped .allOpen held) (at' .synced)).outlets[0].heldAs = some held)
      ∧ (withOutlet (outlet .fault) (at' .synced)).outlets[0].claimOutstanding = false
      ∧ isPosted (fun i => i == .cancel 0 || isReleaseOf 0 i) (withOutlet (outlet .fault) (at' .synced)) = false
      ∧ isPosted (fun i => i == .cancel 0 || isReleaseOf 0 i) (posting (.cancel 0) 0 (at' .synced)) = true := by decide +kernel

/-- A station with two frames of outlet 0 posted, the first of them in flight. -/
def crowdedOutlet (items : List QueueItem) (x : Outlet) : State := flyingFirst items (withOutlet x (at' .synced))

/-- CANCEL and RELEASE take a free place, RELEASE that of a STARTED that waits, and are due where both places are taken. -/
theorem test_outlet_off_posts_or_keeps_due :
    (after (.outletOff 0#8) (withOutlet (outlet .waiting) (at' .synced))).tie.queue.map Posted.item = [.cancel 0]
      ∧ (after (.outletOff 0#8) (withOutlet (outlet .on .full) (at' .synced))).tie.queue.map Posted.item = [.release 0 3 5]
      ∧ (after (.outletOff 0#8) (crowdedOutlet [.claim 0 3 5, .started 0] (outlet .on .full))).tie.queue.map Posted.item
          = [.claim 0 3 5, .release 0 3 5]
      ∧ (after (.outletOff 0#8) (crowdedOutlet [.started 0, .claim 0 3 5] (outlet .on .full))).outlets[0].due = some .release
      ∧ (after (.outletOff 0#8) (crowdedOutlet [.claim 0 3 5, .started 0] (outlet .queued))).outlets[0].due = some .cancel
      ∧ placeTaken (.outlet 0) (crowdedOutlet [.claim 0 3 5, .started 0] (outlet .on .full)) = 2 := by decide +kernel

/-- A SYNCED station at a local level, its shed line in a state. -/
def shedding (line : LineState) (count : Level) : State :=
  { at' .synced with shed := { (at' .synced).shed with line := line, localCount := count, frameWait := some 5 } }

theorem test_meets_ShedCommandDemands :
    Ready (shedding .ready 8) ∧ 8 ≤ localLevel (shedding .ready 8) ∧ localLevel (shedding .ready 7) < 8
      ∧ Settled (shedding .ready 7) ∧ DefaultSeverity (shedding .ready 7) ∧ placeFree .shed (shedding .ready 7) = true
      ∧ (shedding .recovering 7).shed.line ≠ .ready ∧ (shedding .recovering 7).shed.localCount ≠ 0
      ∧ drainLawful (shedding .recovering 7) ∧ (shedding .recovering 0).shed.localCount = 0
      ∧ isPosted isShed (posting (.shed 1) 0 (shedding .recovering 7)) = true
      ∧ Ready (posting (.shed 1) 0 (shedding .recovering 7)) ∧ Settled (posting (.shed 1) 0 (shedding .recovering 7))
      ∧ ∀ o : OutletNum, (shedding .recovering 7).outlets[o].due = none := by
  unfold drainLawful
  decide +kernel

/-- A SYNCED station that obeys every law, one outlet ON below level 4 and one above, its step timer due, at a local count and
with its line in a state. -/
def sheddingLawful (line : LineState) (count : Level) : State :=
  let s := steady .synced [] [] [outlet .on .full, { outlet .on .full with config := { (outlet .on).config with priority := 7 } }]
  { s with
    shed := { s.shed with line := line, localCount := count, stepTimer := some 0 }
    pins := { s.pins with shedLow := line == .asserted }
    rail := { s.rail with live := true, sticky := true } }

/-- A demand of each trigger: the SHED command, the step timer with the live flag set, the rise of the flag. -/
theorem test_meets_demands :
    (Lawful (sheddingLawful .ready 3) ∧ Lawful (sheddingLawful .recovering 3) ∧ Lawful (sheddingLawful .recovering 0)
        ∧ Lawful (sheddingLawful .ready 8) ∧ Lawful { sheddingLawful .ready 3 with rail := {} })
      ∧ (∀ s ∈ [sheddingLawful .ready 3, sheddingLawful .recovering 3], Ready s ∧ DefaultSeverity s ∧ s.shed.stepTimer ≠ none
          ∧ s.rail.live = true ∧ following s = true ∧ s.clock.running = true)
      ∧ (∀ c ∈ [(Instr.shed, sheddingLawful .ready 3), (.stepTimerExpiry, sheddingLawful .ready 3),
            (.railSagRise 759 4, { sheddingLawful .ready 3 with rail := {} })],
          statesAfter 2 c.1 c.2 = [.dropped, .on] ∧ (after c.1 c.2).shed.localCount = 4
            ∧ (after c.1 c.2).tie.queue.map Posted.item = [.shed 4]
            ∧ EventRecord.outlet 0 .dropped .pulse ∈ (after c.1 c.2).report.events)
      ∧ (after .stepTimerExpiry (sheddingLawful .recovering 3)).tie.queue.map Posted.item = [.shed 3]
      ∧ (after .stepTimerExpiry (sheddingLawful .recovering 0)).tie.queue = []
      ∧ (after .stepTimerExpiry (sheddingLawful .ready 8)).shed.stepTimer = some 50
      ∧ answerOf .shed (at' .mute) = some (.refusedState, [0#8]) :=
  ⟨⟨lawful_of _ (by decide +kernel), lawful_of _ (by decide +kernel), lawful_of _ (by decide +kernel),
    lawful_of _ (by decide +kernel), lawful_of _ (by decide +kernel)⟩, by decide +kernel⟩

/-- A demand while a RESTORE is in flight: the post is pending. -/
theorem test_meets_demand_with_restore_in_flight :
    let s := flyingFirst [.restore] (sheddingLawful .recovering 3)
    Lawful s ∧ (after .stepTimerExpiry s).shed.postPending = true :=
  ⟨lawful_of _ (by decide +kernel), by decide +kernel⟩

theorem test_membership_commands_refused :
    answerOf .leave (at' .mute) = some (.refusedState, [0#8])
      ∧ answerOf .leave (withOutlet (outlet .on .full) (at' .synced)) = some (.refusedState, [4#8])
      ∧ answerOf .leave (posting (.forget 1) 0 (at' .synced)) = some (.busy, [])
      ∧ answerOf .resync (at' .refused) = some (.refusedState, [0#8]) := by decide +kernel

theorem test_meets_MembershipCommands :
    Ready (at' .synced) ∧ Settled (at' .synced) ∧ DefaultSeverity (at' .synced) ∧ allOff (at' .synced) = true
      ∧ placeFree .membership (at' .synced) = true ∧ Ready (at' .refused) ∧ Settled (at' .refused)
      ∧ anySoft (at' .synced) = false ∧ anySoft (withOutlet (outlet .soft .weak) (at' .synced)) = true := by decide +kernel

theorem test_meets_RestoreAndForgetConditions :
    Ready (at' .mute) ∧ (at' .mute).membership.station ≠ .synced ∧ Ready sagging
      ∧ placeFree .shed (posting (.shed 1) 0 (at' .synced)) = false ∧ placeFree .shed (at' .synced) = true
      ∧ (lostPeer (at' .synced)).membership.peers[1].presence = .lost ∧ (1 : StationNum) ≠ (at' .synced).number
      ∧ (at' .synced).membership.peers[1].presence ≠ .lost
      ∧ placeFree .membership (posting .leave 0 (lostPeer (at' .synced))) = false
      ∧ placeFree .membership (lostPeer (at' .synced)) = true := by decide +kernel

theorem test_meets_BusIdleReached :
    (active .isolated).resetting = none ∧ (active .isolated).tie.mode ≠ .off ∧ (active .isolated).tie.tx = none
      ∧ (active .isolated).membership.waitExpired = false ∧ Settled (active .isolated) ∧ Settled (active .synced)
      ∧ (at' .synced).tie.mode = .off ∧ (sending .leave 0 ⟨3, .leave⟩ (active .synced)).tie.tx ≠ none := by decide +kernel

theorem test_meets_AttemptOfFirstEligibleFrame :
    let s := { active .synced with tie := { (active .synced).tie with recessive := 12 } }
    s.resetting = none ∧ s.tie.mode = .active ∧ s.tie.recessive = 12 ∧ s.tie.tx = none ∧ s.tie.queue = []
      ∧ s.tie.receiving = false ∧ ∃ q ∈ (posting .presence 0 s).tie.queue, eligible .synced q = true := by decide +kernel

theorem test_meets_AttemptLeavesFlight :
    let s := sending .presence 2 ⟨3, .presence 0#16⟩ (active .synced)
    Sending s (one .presence 2) ∧ Settled s ∧ (one .presence 2).failed.val < 3 ∧ delivers s = true
      ∧ s.membership.waitExpired = false := by decide +kernel

/-- A RESTORE in flight that a demand marked for withdrawal, with SHED pending. -/
def restoreMarked : State := after .stepTimerExpiry (flyingFirst [.restore] (sheddingLawful .recovering 3))

theorem test_meets_AttemptLeavesFlight_marked :
    Lawful restoreMarked ∧ restoreMarked.resetting = none ∧ restoreMarked.shed.postPending = true
      ∧ flying restoreMarked = some ⟨0, .restore, 0, true⟩
      ∧ (∀ c ∈ [Instr.arbitrationLost, .abortMark, .frameVetoed ⟨13, 0, 0, [], 0#16⟩],
          (after c restoreMarked).tie.queue.map Posted.item = [.shed 3]) :=
  ⟨lawful_of _ (by decide +kernel), by decide +kernel⟩

/-- A bit error while vetoing is suppressed drives no abort mark. -/
theorem test_suppressed_sender_drives_no_abort_mark :
    let s := sending .presence 2 ⟨3, .presence 0#16⟩ (active .synced)
    (after .abortMark s).tie.aborting = true
      ∧ (after .abortMark { s with tie := { s.tie with vetoRun := 8, suppressed := true } }).tie.aborting = false := by
  decide +kernel

theorem test_meets_FourthFailureMutes :
    ∀ st ∈ [StationState.synced, .resyncing, .leaving],
      let s := sending .presence 3 ⟨3, .presence 0#16⟩ (active st)
      Sending s (one .presence 3) ∧ (one .presence 3).failed = 3 ∧ DefaultSeverity s ∧ s.report.escalate = false
        ∧ delivers s = true ∧ (after (.frameVetoed ⟨13, 0, 0, [], 0#16⟩) s).membership.station = .mute := by
  decide +kernel

/-- A JOINING station whose JOIN has failed three times. -/
def failingJoin (attempt : Fin 4) : State :=
  let s := steady .joining [] [] []
  let t : State := { s with
    replica := .empty, check := checkOf .empty
    membership := { s.membership with attempt := attempt, peers := Vector.replicate 16 {} } }
  sending (.join 7#16) 3 ⟨3, .join 7#16⟩ t

theorem test_meets_FourthFailureMutes_in_JOINING :
    (Lawful (failingJoin 2) ∧ Lawful (failingJoin 3)
        ∧ Lawful (sending (.forget 1) 3 ⟨3, .forget 1#8⟩ (failingJoin 2)))
      ∧ (∀ s ∈ [failingJoin 2, failingJoin 3], Sending s (one (.join 7#16) 3) ∧ DefaultSeverity s ∧ s.report.escalate = false
          ∧ s.membership.station = .joining ∧ delivers s = true)
      ∧ (after (.frameVetoed ⟨13, 0, 0, [], 0#16⟩) (failingJoin 2)).membership.attempt = 3
      ∧ (after .abortMark (failingJoin 2)).tie.queue.map Posted.item = [.join 7#16]
      ∧ (after .abortMark (failingJoin 2)).membership.attempt = 3
      ∧ (after .abortMark (failingJoin 3)).membership.station = .config
      ∧ namesFault (after .abortMark (failingJoin 3)).report.status .joinTimeout = true
      ∧ (after .abortMark (sending (.forget 1) 3 ⟨3, .forget 1#8⟩ (failingJoin 2))).tie.queue = [] :=
  ⟨⟨lawful_of _ (by decide +kernel), lawful_of _ (by decide +kernel), lawful_of _ (by decide +kernel)⟩, by decide +kernel⟩

/-- SEND_FAILED written fatal: ISOLATED by way of MUTE, and from JOINING; the JOIN that failed for good ends in CONFIG. -/
theorem test_meets_FourthFailureMutes_fatal :
    let presenceFails := sending .presence 3 ⟨3, .presence 0#16⟩ (fatally (steady .synced [] [] [outlet .on .full]))
    (Calm presenceFails ∧ Calm (fatally (failingJoin 2)) ∧ Calm (fatally (failingJoin 3)))
      ∧ (Sending presenceFails (one .presence 3) ∧ WrittenFatal .sendFailed presenceFails
        ∧ presenceFails.report.escalate = false
        ∧ Isolated presenceFails.replica presenceFails (after .abortMark presenceFails)
        ∧ (after .abortMark presenceFails).report.events
            = [.fault .sendFailed, .station .mute .sendFailed, .station .isolated .fatal, .outlet 0 .off .station]
        ∧ Isolated .empty (fatally (failingJoin 2)) (after .abortMark (fatally (failingJoin 2)))
        ∧ (after .abortMark (fatally (failingJoin 3))).membership.station = .config) :=
  ⟨⟨calm_of _ (by decide +kernel) (by decide +kernel), calm_of _ (by decide +kernel) (by decide +kernel),
    calm_of _ (by decide +kernel) (by decide +kernel)⟩, by decide +kernel⟩

/-- A received frame of no kind. -/
def badFrame : RawFrame := ⟨13, 0, 0, [], 0#16⟩

/-- A station with a veto run. -/
def vetoing (run : Fin 9) : State := { active .synced with tie := { (active .synced).tie with vetoRun := run } }

theorem test_meets_VetoRunCount :
    (vetoing 6).tie.vetoRun.val < 7 ∧ (vetoing 7).tie.vetoRun = 7 ∧ Settled (vetoing 6) ∧ Settled (vetoing 7)
      ∧ DefaultSeverity (vetoing 7) ∧ frameGood badFrame = false ∧ frameGood (rawOf ⟨0, .presence 5#16⟩) = true
      ∧ (vetoing 7).tie.tx = none ∧ (vetoing 7).tie.suppressed = false ∧ (vetoing 7).membership.waitExpired = false := by
  decide +kernel

/-- A station whose vetoing is suppressed. -/
def suppressed : State := { vetoing 8 with tie := { (vetoing 8).tie with suppressed := true } }

theorem test_meets_VetoRunCount_suppressed :
    Settled suppressed ∧ suppressed.tie.mode = .active ∧ suppressed.tie.tx = none
      ∧ (after (.frameVetoed (rawOf ⟨0, .presence 5#16⟩)) suppressed).tie.suppressed = false
      ∧ (after (.frameVetoed badFrame) suppressed).tie.suppressed = true
      ∧ (after (.formatError false) suppressed).tie.aborting = false
      ∧ (after (.acceptRestore 1) suppressed).tie.suppressed = false
      ∧ (after (.acceptLeave 3) (sending .leave 0 ⟨3, .leave⟩ suppressed)).tie.suppressed = true
      ∧ (after (.acceptLeave 3) (sending .leave 0 ⟨3, .leave⟩ (vetoing 6))).tie.vetoRun = 0
      ∧ (after (.formatError false) (vetoing 7)).tie.aborting = true
      ∧ (after (.formatError false) (vetoing 7)).tie.suppressed = true := by decide +kernel

/-- The eighth veto of a station in LEAVING, which stays. -/
theorem test_meets_VetoRunCount_elsewhere :
    let s := { active .leaving with tie := { (active .leaving).tie with vetoRun := 7 } }
    Settled s ∧ DefaultSeverity s ∧ s.tie.vetoRun = 7 ∧ s.membership.station ≠ .dormant
      ∧ (∀ c ∈ [Instr.formatError false, .frameVetoed badFrame],
          (after c s).tie.suppressed = true ∧ (after c s).membership.station = .leaving) := by decide +kernel

/-- VETO_LIMIT written fatal at the eighth veto. -/
theorem test_meets_VetoRunCount_fatal :
    ∀ st ∈ [StationState.joining, .synced, .resyncing, .mute, .leaving],
      let s := fatally { active st with tie := { (active st).tie with vetoRun := 7 } }
      Settled s ∧ WrittenFatal .vetoLimit s ∧ s.membership.station = st ∧ s.tie.mode = .active ∧ s.tie.suppressed = false
        ∧ ∀ c ∈ [Instr.formatError false, .frameVetoed badFrame],
            Isolated s.replica s (after c s) ∧ (after c s).tie.suppressed = true := by decide +kernel

/-- One acceptance command of each kind. -/
def acceptances : List Instr :=
  [.acceptShed 1 8#8, .acceptRestore 1, .acceptSnapshot 1 2#8 emptyContent, .acceptRefuse 1 2#8 0#16, .acceptJoin 1 7#16,
   .acceptResync 1 { digest := 7#16, bins := Row.zero, entries := List.replicate 8 anEntry }, .acceptLeave 1,
   .acceptForget 1 2#8, .acceptStarted 1 0#8, .acceptCancel 1 0#8, .acceptRelease 1 0#8 3 5, .acceptClaim 1 0#8 3 5,
   .acceptPresence 1 0#16]

theorem test_meets_acceptance_statements :
    (∀ c ∈ acceptances, ∃ f ∈ frameOf c, carriable f.body = true)
      ∧ (∀ st ∈ [StationState.synced, .mute, .leaving], Receiving (active st))
      ∧ (∀ st ∈ [StationState.config, .refused, .isolated], Receiving (active st) ∧ Settled (active st)
          ∧ (active st).membership.waitExpired = false)
      ∧ (sending .leave 0 ⟨3, .leave⟩ (active .synced)).tie.tx.map Transmission.frame = some ⟨3, .leave⟩
      ∧ delivers (sending .leave 0 ⟨3, .leave⟩ (active .synced)) = true
      ∧ isIgnoredForget (.forget 15#8) = false ∧ isIgnoredForget (.forget 16#8) = true := by decide +kernel

/-- A RESYNCING station, other stations' frames and its own RESYNC. -/
theorem test_meets_AcceptedFrameMakesReplica_in_RESYNCING :
    (∀ c ∈ acceptances, ∃ f ∈ frameOf c, answersJoin (active .resyncing) f.body = false)
      ∧ delivers (active .resyncing) = true ∧ (active .resyncing).tie.tx = none
      ∧ answersJoin (active .resyncing) (.refuse 3#8 0#16) = true ∧ answersJoin (active .resyncing) (.refuse 16#8 0#16) = false
      ∧ (let s := sending (.resync false) 0 ⟨3, .resync { digest := 7#16, bins := Row.zero, entries := [] }⟩ (active .resyncing)
         s.tie.tx.map Transmission.frame = some ⟨3, .resync { digest := 7#16, bins := Row.zero, entries := [] }⟩) := by
  decide +kernel

/-- A SNAPSHOT for a RESYNCING station that awaits none is a frame that the statement takes in. -/
theorem test_meets_AcceptedFrameMakesReplica_unawaited :
    answersJoin (active .resyncing) (.snapshot 3#8 emptyContent) = false
      ∧ answersJoin (awaiting .resyncing) (.snapshot 3#8 emptyContent) = true := by decide +kernel

/-- A CANCELLING outlet with both places taken and its CANCEL due, the CLAIM in flight, MARK taken. -/
def crowded : State :=
  let s := flyingFirst [.claim 0 3 5, .release 0 3 5]
    (steady .synced [] [] [{ outlet .cancelling with claimOutstanding := true, due := some .cancel }])
  { s with port := { s.port with drainSet := [0, 1], drained := false } }

/-- The own CLAIM accepted leaves the queue and the drain set, the due CANCEL takes its place, the presence timer starts again;
the drained flag sets when the last frame of the set has gone. -/
theorem test_meets_AcceptedFrameMakesReplica_own :
    Steady crowded ∧ (∃ x, crowded.tie.tx = some x ∧ x.frame = ⟨3, .claim 0#8 3 5⟩)
      ∧ (crowded.outlets[0].due = some .cancel
        ∧ (let t := after (.acceptClaim 3 0#8 3 5) crowded
           t.tie.queue.map Posted.item = [.release 0 3 5, .cancel 0] ∧ t.port.drainSet = [1] ∧ t.port.drained = false
             ∧ t.membership.presenceTimer = some 100)
        ∧ (let t := after (.acceptClaim 3 0#8 3 5) { crowded with port := { crowded.port with drainSet := [0] } }
           t.port.drainSet = [] ∧ t.port.drained = true)) :=
  ⟨steady_of _ (by decide +kernel) (by decide +kernel), ⟨_, rfl, rfl⟩, by decide +kernel⟩

/-- A LEAVING station whose LEAVE is in flight. -/
def leaving : State :=
  let s := steady .leaving [] [] []
  flyingFirst [.leave] { s with membership := { s.membership with presenceTimer := some 9 } }

theorem test_meets_AcceptanceTakesStationOut_leave :
    Steady leaving ∧ delivers leaving = true ∧ leaving.membership.station = .leaving
      ∧ (∃ x, leaving.tie.tx = some x ∧ x.frame = ⟨leaving.number, .leave⟩) ∧ leaving.report.events.length ≤ 15
      ∧ leaving.settings.station.enable.getLsbD 1 = true
      ∧ (after (.acceptLeave 3) leaving).report.events.getLast? = some (.station .config .left)
      ∧ (after (.acceptLeave 3) leaving).settings.digest = none :=
  ⟨steady_of _ (by decide +kernel) (by decide +kernel), rfl, rfl, ⟨_, rfl, rfl⟩, by decide +kernel⟩

theorem test_meets_AcceptanceTakesStationOut :
    (∀ st ∈ [StationState.synced, .resyncing, .mute, .leaving], following (active st) = true
        ∧ (after (.acceptForget 1 3#8) (active st)).membership.station = .isolated)
      ∧ (∀ st ∈ [StationState.synced, .mute, .leaving, .joining, .resyncing],
          (after (.acceptPresence 3 0#16) (active st)).membership.station = .isolated)
      ∧ (∀ st ∈ [StationState.config, .refused, .isolated],
          (after (.acceptPresence 3 0#16) (active st)).membership.station = st
            ∧ namesFault (after (.acceptPresence 3 0#16) (active st)).report.status .duplicateNumber = true)
      ∧ ∀ st : StationState, (active st).tie.tx = none ∧ (1 : StationNum) ≠ (active st).number
          ∧ (active st).membership.waitExpired = false :=
  ⟨by decide +kernel, by decide +kernel, by decide +kernel, fun _ => ⟨rfl, (by decide : (1 : StationNum) ≠ 3), rfl⟩⟩

/-- A REFUSE of another station with another digest: a divergence in SYNCED and in LEAVING (log entry 40). -/
theorem test_divergence_at_refuse :
    (∀ st ∈ [(StationState.synced, true), (.leaving, true), (.mute, false)], ∀ target ∈ [5#8, 16#8],
      namesFault (after (.acceptRefuse 1 target 8#16) (steady st.1 [] [] [])).report.status .divergence = st.2)
      ∧ (∀ st ∈ [StationState.synced, .leaving],
          let t := after (.acceptRefuse 1 3#8 8#16) (steady st [] [] [])
          namesFault t.report.status .joinRefused = true ∧ namesFault t.report.status .divergence = false
            ∧ Settled (steady st [] [] []) ∧ Receiving (steady st [] [] [])) := by decide +kernel

/-- A SYNCED station whose account exceeds its capacity. -/
def overcommitted : State :=
  let s := steady .synced [] [] []
  { s with replica := exampleReplica, settings := { s.settings with shared := { s.settings.shared with capacity := 69 } } }

theorem test_overcommit_at_ignored_frames :
    ∀ c ∈ [Instr.acceptShed 1 9#8, .acceptRestore 5, .acceptForget 1 16#8],
      namesFault (after c overcommitted).report.status .overcommit = true := by decide +kernel

/-- OVERCOMMIT and FOREIGN_FRAME written fatal isolate the station, the replica that the frame made frozen. -/
theorem test_meets_AcceptedFrameMakesReplica_fatal :
    let s := fatally overcommitted
    let foreign := fatally (steady .resyncing [] [] [outlet .on .full])
    WrittenFatal .overcommit s ∧ s.settings.shared.capacity.val < accountTotal (after (.acceptLeave 3) s).replica
      ∧ Isolated (after (.acceptStarted 2 4#8) s).replica s (after (.acceptStarted 2 4#8) s)
      ∧ (after (.acceptStarted 2 4#8) s).replica.start = []
      ∧ WrittenFatal .foreignFrame foreign
      ∧ (accountChange foreign.settings.shared foreign.settings.digest foreign.replica ⟨5, .restore⟩).foreign = true
      ∧ Isolated foreign.replica foreign (after (.acceptRestore 5) foreign) := by decide +kernel

theorem test_meets_LimitByPriority : (7 : Prio).val < (8 : Fin 9).val ∧ (8 : Fin 9).val ≤ 8 ∧ (6 : Fin 9).val ≤ (6 : Prio).val := by
  decide +kernel

theorem test_meets_ClaimTestsInOrder :
    let c := exampleSettings
    let r := exampleReplica
    claimOutcome c r ⟨4, 0, 3, 5⟩ = .denied .notMember
      ∧ claimOutcome c { r with shedLevel := 4 } ⟨1, 1, 3, 5⟩ = .denied .shedLevel
      ∧ claimOutcome c r ⟨1, 1, 7, 61⟩ = .denied .oversize ∧ claimOutcome c r ⟨1, 2, 7, 5⟩ = .denied .duplicate
      ∧ claimOutcome c r ⟨1, 1, 7, 30⟩ = .admitted ∧ claimOutcome c r ⟨1, 1, 7, 31⟩ = .waiting
      ∧ claimOutcome c { r with wait := List.replicate 32 ⟨2, 1, 6, 25⟩ } ⟨1, 1, 7, 31⟩ = .denied .listFull := by
  decide +kernel

theorem test_meets_account_statements :
    (5 : Units) ≠ 0 ∧ (∃ e ∈ exampleReplica.wait, e.station = 1 ∧ e.outlet = 2)
      ∧ (∀ e ∈ exampleReplica.wait, ¬(e.station = 2 ∧ e.outlet = 4))
      ∧ exampleReplica.start.find? (isPair 2 4) = some ⟨2, 4, 7, 40⟩
      ∧ (∀ e ∈ exampleReplica.wait ++ exampleReplica.start, ¬(e.station = 1 ∧ e.outlet = 7))
      ∧ (1 ≤ (1#8).toNat ∧ (8#8).toNat ≤ 8) ∧ ¬(1 ≤ (0#8).toNat) ∧ ¬((9#8).toNat ≤ 8)
      ∧ inSet exampleReplica.members 1 = true ∧ inSet exampleReplica.members 4 = false ∧ 16 ≤ (16#8).toNat
      ∧ some 7#16 ≠ some 8#16 := by decide +kernel

theorem test_ignored_outlet_frames :
    8 ≤ (8#8).toNat ∧ 8 ≤ (8 : Fin 16).val ∧ admissionPass { exampleSettings with order := .strict } exampleReplica = exampleReplica
      ∧ (∀ body ∈ [FrameBody.claim 8#8 7 5, .claim 0#8 8 5, .claim 5#8 7 0, .release 8#8 7 5, .release 0#8 8 5, .release 5#8 7 0,
            .started 8#8, .cancel 255#8],
          let change := accountChange { exampleSettings with order := .strict } none exampleReplica ⟨1, body⟩
          change.replica = exampleReplica ∧ change.foreign = true)
      ∧ (reportsOf 2 1 true ⟨1, .claim 5#8 7 0⟩ exampleReplica
          (accountChange { exampleSettings with order := .strict } none exampleReplica ⟨1, .claim 5#8 7 0⟩)).map
            (fun r => (r.outlet, r.standing, r.outcome)) = [(5, .listed, some (.denied .oversize))] := by decide +kernel

theorem test_meets_PassOrder :
    exampleReplica.wait = ⟨1, 2, 2, 15⟩ :: exampleReplica.wait.tail
      ∧ fits exampleSettings exampleReplica ⟨1, 2, 2, 15⟩ = false ∧ exampleSettings.order = .fit
      ∧ fits exampleSettings { exampleReplica with wait := [⟨3, 0, 4, 10⟩] } ⟨3, 0, 4, 10⟩ = true
      ∧ { exampleSettings with order := .strict }.order = .strict ∧ accountTotal exampleReplica ≤ 100
      ∧ { exampleSettings with capacity := 69 }.capacity.val < accountTotal exampleReplica := by decide +kernel

/-- A RESYNC of station 1 that declares two entries at priority 7, one below the shed level, and one of another station. -/
def declaring : ResyncContent :=
  { digest := 7#16, bins := oneBin 7 9, entries := [⟨1, 0, 7, 5, 0⟩, ⟨1, 1, 2, 5, 0⟩, ⟨1, 2, 7, 5, 0⟩, ⟨2, 3, 7, 5, 0⟩] }

theorem test_resync_places_what_has_room :
    let r : Replica := { exampleReplica with shedLevel := 3, start := List.replicate 31 ⟨2, 4, 7, 1⟩, wait := [] }
    let change := accountChange exampleSettings (some 7#16) r ⟨1, .resync declaring⟩
    change.replica.start = r.start ++ [⟨1, 0, 7, 5⟩] ∧ (binOf change.replica 1 7).val = 4 ∧ change.foreign = true
      ∧ accountChange exampleSettings (some 8#16) r ⟨1, .resync declaring⟩ = { replica := r } := by decide +kernel
/-! ## Own outlets at accepted frames -/

/-- The one slot is station 1's; outlet 0 waits for it on the reserve path, outlet 2 stands in the wait list. -/
def admitted : State :=
  steady .synced [⟨1, 0, 7, 5⟩, ⟨3, 0, 3, 5⟩] [⟨3, 2, 3, 5⟩] [outlet .admitted .reserve, outlet .off, outlet .waiting, outlet .on .full]

theorem test_admitted_is_steady : Steady admitted ∧ delivers admitted = true ∧ following admitted = true :=
  ⟨steady_of _ (by decide +kernel) (by decide +kernel), by decide +kernel⟩

/-- STARTED of the pair that holds the slot: the outlet on the reserve path enters SOFT through the gap. -/
theorem test_meets_OutletsActOnReports_started :
    SentOrHeard admitted ⟨1, .started 0#8⟩ ∧ admitted.outlets[0].standing = .admitted
      ∧ (after (.acceptStarted 1 0#8) admitted).outlets[0].standing = .slot
      ∧ statesAfter 4 (.acceptStarted 1 0#8) admitted = [.soft, .off, .admitted, .on]
      ∧ (after (.acceptStarted 1 0#8) admitted).outlets[0].path = .allOpen
      ∧ (after (.acceptStarted 1 0#8) admitted).outlets[0].gap = some 2 := by decide +kernel

/-- The own CLAIM of a QUEUED outlet with the slot free: it enters SOFT on the weak path. -/
def claiming : State := flyingFirst [.claim 0 3 5] (steady .synced [] [] [outlet .queued])

theorem test_meets_OutletsActOnReports_claim :
    Steady claiming ∧ SentOrHeard claiming ⟨3, .claim 0#8 3 5⟩
      ∧ statesAfter 1 (.acceptClaim 3 0#8 3 5) claiming = [.soft]
      ∧ (after (.acceptClaim 3 0#8 3 5) claiming).outlets[0].path = .weak
      ∧ (after (.acceptClaim 3 0#8 3 5) claiming).outlets[0].settle = some 50 :=
  ⟨steady_of _ (by decide +kernel) (by decide +kernel), Or.inr ⟨rfl, _, rfl, rfl⟩, by decide +kernel⟩

/-- A SOFT outlet whose entry goes: QUEUED, every switch open, CLAIM posted again. -/
def starting : State := steady .synced [⟨3, 0, 3, 5⟩] [] [outlet .soft .weak]

theorem test_meets_OutletsActOnReports_cancel :
    let s := flyingFirst [.cancel 0] starting
    Steady s ∧ SentOrHeard s ⟨3, .cancel 0#8⟩ ∧ statesAfter 1 (.acceptCancel 3 0#8) s = [.queued]
      ∧ placeTaken (.outlet 0) (after (.acceptCancel 3 0#8) s) = 1
      ∧ (after (.acceptCancel 3 0#8) s).outlets[0].path = .allOpen :=
  ⟨steady_of _ (by decide +kernel) (by decide +kernel), Or.inr ⟨rfl, _, rfl, rfl⟩, by decide +kernel⟩

/-- CANCELLING with its CLAIM in flight, and STOPPING with its RELEASE in flight. -/
def turningAway : State :=
  flyingFirst [.claim 0 3 5] (steady .synced [] [] [{ outlet .cancelling with claimOutstanding := true }])

theorem test_meets_OutletsActOnReports_turned_away :
    Steady turningAway ∧ SentOrHeard turningAway ⟨3, .claim 0#8 3 5⟩
      ∧ statesAfter 1 (.acceptClaim 3 0#8 3 5) turningAway = [.cancelling]
      ∧ cancelOutstanding 0 (after (.acceptClaim 3 0#8 3 5) turningAway) = true
      ∧ (let s := flyingFirst [.release 0 3 5] (steady .synced [] [] [outlet .stopping])
         statesAfter 1 (.acceptRelease 3 0#8 3 5) s = [.off]) :=
  ⟨steady_of _ (by decide +kernel) (by decide +kernel), Or.inr ⟨rfl, _, rfl, rfl⟩, by decide +kernel⟩

/-- An outlet of every state below level 4, and one DROPPED at priority 7. -/
def manyOutlets : State :=
  steady .synced [⟨3, 1, 3, 5⟩] [⟨3, 2, 3, 5⟩]
    [outlet .on .full, outlet .soft .weak, outlet .waiting .reserve, outlet .dropped .weak (some .on), outlet .stopping .weak,
     outlet .cancelling, outlet .shed .weak,
     { outlet .dropped .allOpen (some .soft) with config := { weight := 5, priority := 7, autoReclaim := true } }]

theorem test_meets_ShedAndRestoreActOnOutlets :
    Steady manyOutlets ∧ delivers manyOutlets = true ∧ following manyOutlets = true ∧ SentOrHeard manyOutlets ⟨1, .shed 4#8⟩
      ∧ SentOrHeard manyOutlets ⟨1, .restore⟩ ∧ inSet manyOutlets.replica.members 1 = true
      ∧ inSet manyOutlets.replica.members 5 = false ∧ SentOrHeard manyOutlets ⟨5, .restore⟩
      ∧ (1 ≤ (1#8).toNat ∧ (8#8).toNat ≤ 8)
      ∧ statesAfter 8 (.acceptShed 1 4#8) manyOutlets = [.shed, .shed, .shed, .shed, .stopping, .off, .shed, .shed]
      ∧ statesAfter 8 (.acceptRestore 1) manyOutlets = [.on, .soft, .admitted, .queued, .stopping, .cancelling, .queued, .queued]
      ∧ statesAfter 8 (.acceptRestore 5) manyOutlets = manyOutlets.outlets.toList.map Outlet.state
      ∧ releaseOutstanding 3 (after (.acceptRestore 1) manyOutlets) = true
      ∧ cancelOutstanding 7 (after (.acceptRestore 1) manyOutlets) = true :=
  ⟨steady_of _ (by decide +kernel) (by decide +kernel), by decide +kernel⟩

/-- The OUTLET records of one acceptance come pass by pass, in outlet order within each (log entry 50): at SHED the outlet
below the agreed level before the DROPPED one above it, at RESTORE both steps of R153. -/
theorem test_outlet_records_pass_by_pass :
    let dropped := { outlet .dropped .allOpen (some .soft) with config := { weight := 5, priority := 7, autoReclaim := true } }
    let s := steady .synced [] [] [dropped, outlet .on .full, dropped]
    let records (c : Instr) : List EventRecord := (after c s).report.events.drop s.report.events.length
    records (.acceptShed 1 4#8) = [.shedLevel 4, .outlet 1 .shed .shed, .outlet 0 .shed .shed, .outlet 2 .shed .shed]
      ∧ records (.acceptRestore 1) = [.outlet 0 .shed .restore, .outlet 2 .shed .restore,
          .outlet 0 .queued .restore, .outlet 2 .queued .restore] := by
  decide +kernel

/-- At a member's RESTORE in overcommit SHED_LEVEL comes before the FAULT record (log entry 52). -/
theorem test_restore_level_before_overcommit :
    let s := { overcommitted with replica := { overcommitted.replica with shedLevel := 1 } }
    (after (.acceptRestore 1) s).report.events.drop s.report.events.length = [.shedLevel 0, .fault .overcommit] := by
  decide +kernel

/-- At an entry to ISOLATED with a sag of 10 ms the inrush mark clears after the entry's records: RAIL_SAG comes last, and no
pulse is driven (log entry 51). -/
theorem test_isolation_clears_inrush_last :
    let s := steady .synced [⟨3, 0, 3, 5⟩] [] [outlet .soft .weak]
    let t := after .lossOfLock { s with rail := { s.rail with count := 10 }, pins := { s.pins with railSense := 0 } }
    t.report.events.drop s.report.events.length
        = [.fault .clockUnlock, .station .isolated .fatal, .outlet 0 .off .station, .fault .railSag]
      ∧ t.rail.live = true ∧ t.rail.inrush = false ∧ t.pins.shedLow = false := by
  decide +kernel

/-- SHED of level 1 at local level 3: after another station's frame the wait starts, unless an own SHED of a higher level is
posted; after the own frame a further SHED is posted. -/
theorem test_meets_ShedAndRestoreActOnOutlets_remainder :
    let s := { sheddingLawful .recovering 3 with rail := {} }
    let own := flyingFirst [.shed 1] s
    let posted := { s with tie := { s.tie with queue := [⟨0, .shed 3, 0, false⟩], nextSeq := 9 } }
    Steady s ∧ Steady own ∧ Steady posted ∧ SentOrHeard own ⟨3, .shed 1#8⟩
      ∧ (SentOrHeard s ⟨1, .shed 1#8⟩ ∧ SentOrHeard posted ⟨1, .shed 1#8⟩ ∧ localLevel s = 3
        ∧ (after (.acceptShed 1 1#8) s).shed.frameWait = some 5 ∧ (after (.acceptShed 1 1#8) s).shed.localCount = 2
        ∧ (after (.acceptShed 1 1#8) posted).shed.frameWait = none
        ∧ (after (.acceptShed 3 1#8) own).tie.queue.map Posted.item = [.shed 3]
        ∧ (after (.acceptShed 1 5#8) s).shed.localCount = 0) :=
  ⟨steady_of _ (by decide +kernel) (by decide +kernel), steady_of _ (by decide +kernel) (by decide +kernel),
   steady_of _ (by decide +kernel) (by decide +kernel), Or.inr ⟨rfl, _, rfl, rfl⟩, by decide +kernel⟩

/-- A RESYNCING station that drives its RESYNC, after the CANCEL and RELEASE of outlets 3 and 4. -/
def resyncing : State :=
  let s := steady .resyncing [⟨3, 0, 3, 5⟩] [⟨3, 1, 3, 5⟩]
    [outlet .admitted .reserve, outlet .waiting, outlet .on .full, outlet .cancelling, outlet .stopping,
     outlet .dropped .allOpen (some .on), { outlet .cancelling with claimOutstanding := true }]
  let t : State := { s with tie := { s.tie with
    queue := [⟨0, .cancel 3, 0, false⟩, ⟨1, .release 4 3 5, 0, false⟩, ⟨2, .claim 6 3 5, 0, false⟩, ⟨3, .resync false, 0, false⟩]
    nextSeq := 9 } }
  { t with tie := { t.tie with
    tx := some { seq := 3, frame := ⟨3, composeBody t ⟨3, .resync false, 0, false⟩⟩, wire := [] } } }

/-- The RESYNC that the station drives. -/
def ownResync : ResyncContent :=
  match composeBody resyncing ⟨3, .resync false, 0, false⟩ with
  | .resync content => content
  | _ => declaring

theorem test_meets_OwnResyncReconciles :
    Steady resyncing ∧ delivers resyncing = true ∧ resyncing.membership.station = .resyncing
      ∧ (∃ x, resyncing.tie.tx = some x ∧ x.frame = ⟨3, .resync ownResync⟩) ∧ ownResync.wellFormed = true
      ∧ resyncing.settings.digest = some ownResync.digest
      ∧ statesAfter 7 (.acceptResync 3 ownResync) resyncing = [.admitted, .queued, .on, .off, .stopping, .dropped, .off]
      ∧ releaseOutstanding 4 (after (.acceptResync 3 ownResync) resyncing) = true :=
  ⟨steady_of _ (by decide +kernel) (by decide +kernel), rfl, rfl, ⟨_, rfl, rfl⟩, by decide +kernel⟩

/-- The same station in MUTE, whose attempt the RESYNC is. -/
def muteAttempting : State :=
  let s : State := { resyncing with
    membership := { resyncing.membership with station := .mute, muteTimer := some 9, isolationTimer := some 9 } }
  { s with tie := { s.tie with queue := s.tie.queue.map fun q => if q.seq = 3 then { q with item := .resync true } else q } }

theorem test_meets_OwnResyncReconciles_in_MUTE :
    Steady muteAttempting ∧ (∃ x, muteAttempting.tie.tx = some x ∧ x.frame = ⟨3, .resync ownResync⟩)
      ∧ statesAfter 7 (.acceptResync 3 ownResync) muteAttempting = [.admitted, .queued, .on, .off, .stopping, .dropped, .off]
      ∧ (after (.acceptResync 3 ownResync) muteAttempting).membership.station = .resyncing
      ∧ (after (.acceptResync 3 ownResync) muteAttempting).membership.isolationTimer = none
      ∧ (after (.acceptResync 3 ownResync) muteAttempting).report.events[0]? = some (.station .resyncing .recovered) :=
  ⟨steady_of _ (by decide +kernel) (by decide +kernel), ⟨_, rfl, rfl⟩, by decide +kernel⟩

theorem test_meets_AttemptLeavesFlight_of_MUTE :
    Lawful muteAttempting ∧ flying muteAttempting = some ⟨3, .resync true, 0, false⟩
      ∧ (∀ c ∈ [Instr.abortMark, .frameVetoed ⟨13, 0, 0, [], 0#16⟩],
          isPosted isResync (after c muteAttempting) = false ∧ (after c muteAttempting).tie.tx = none)
      ∧ isPosted isResync (after .arbitrationLost muteAttempting) = true :=
  ⟨lawful_of _ (by decide +kernel), by decide +kernel⟩

/-- The same station in an account at shed level 4. -/
def resyncingBelow : State :=
  let r : Replica := { resyncing.replica with shedLevel := 4, start := [], wait := [] }
  let s : State := { resyncing with
    replica := r, check := checkOf r, rail := {}
    outlets := Vector.ofFn fun o => { resyncing.outlets[o] with standing := .absent } }
  { s with tie := { s.tie with tx := some { seq := 3, frame := ⟨3, .resync ownResync⟩, wire := [] } } }

theorem test_meets_OwnResyncReconciles_below :
    Steady resyncingBelow ∧ (∃ x, resyncingBelow.tie.tx = some x ∧ x.frame = ⟨3, .resync ownResync⟩)
      ∧ statesAfter 7 (.acceptResync 3 ownResync) resyncingBelow = [.shed, .shed, .shed, .off, .off, .shed, .off] :=
  ⟨steady_of _ (by decide +kernel) (by decide +kernel), ⟨_, rfl, rfl⟩, by decide +kernel⟩

/-- A SYNCED station with a SNAPSHOT duty for station 5, its frame posted. -/
def onDuty : State :=
  let s := steady .synced [] [] []
  { s with
    membership := { s.membership with peers := s.membership.peers.set 5 { duty := .snapshot } }
    tie := { s.tie with queue := [⟨0, .snapshot 5, 0, false⟩], nextSeq := 9 } }

theorem test_meets_DutiesTakenAndCleared :
    Steady onDuty ∧ delivers onDuty = true ∧ onDuty.membership.station = .synced ∧ onDuty.tie.tx = none
      ∧ (5 : StationNum) ≠ onDuty.number ∧ declaring.wellFormed = true ∧ emptyContent.wellFormed = true
      ∧ SentOrHeard onDuty ⟨1, .refuse 5#8 0#16⟩ ∧ SentOrHeard onDuty ⟨1, .snapshot 5#8 emptyContent⟩
      ∧ placeFree .snapshot onDuty = false ∧ onDuty.membership.peers[5].duty = .snapshot
      ∧ (after (.acceptJoin 5 8#16) onDuty).membership.peers[5].duty = .refuse
      ∧ isPosted (fun i => i == .refuse 5 7#16) (after (.acceptJoin 5 8#16) onDuty) = true
      ∧ (after (.acceptForget 1 5#8) onDuty).tie.queue = [] :=
  ⟨steady_of _ (by decide +kernel) (by decide +kernel), by decide +kernel⟩

/-- The same station, whose SNAPSHOT is in flight; and one with no duty, whose snapshot place is free. -/
theorem test_meets_DutiesTakenAndCleared_own :
    let s := flyingFirst [.snapshot 5] onDuty
    Steady s ∧ (∃ content, SentOrHeard s ⟨3, .snapshot 5#8 content⟩ ∧ content.wellFormed = true)
      ∧ Steady (steady .synced [] [] []) ∧ placeFree .snapshot (steady .synced [] [] []) = true :=
  ⟨steady_of _ (by decide +kernel) (by decide +kernel),
   ⟨_, Or.inr ⟨rfl, _, rfl, rfl⟩, by decide +kernel⟩, steady_of _ (by decide +kernel) (by decide +kernel), by decide +kernel⟩

/-! ## Membership -/

theorem test_meets_JoinerIsLoadedOrRefused :
    ∀ st ∈ [StationState.joining, .resyncing],
      let s := awaiting st
      Receiving s ∧ DefaultSeverity s ∧ s.report.escalate = false ∧ s.membership.station = st
        ∧ s.membership.awaiting = true ∧ (1 : StationNum) ≠ s.number ∧ soundContent.wellFormed = true
        ∧ s.membership.waitExpired = false ∧ s.membership.resyncWish = .none
        ∧ s.settings.digest = some soundContent.digest ∧ inSet soundContent.members s.number = true
        ∧ snapshotSound soundContent = true ∧ snapshotSound { soundContent with check := 1#16 } = false
        ∧ inSet emptyContent.members s.number = false ∧ emptyContent.wellFormed = true
        ∧ s.settings.digest = some emptyContent.digest
        ∧ s.settings.digest ≠ some { soundContent with digest := 8#16 }.digest := by decide +kernel

/-- A SNAPSHOT that is not sound with DIVERGENCE written fatal; a refusal with JOIN_REFUSED written fatal. -/
theorem test_meets_JoinerIsLoadedOrRefused_fatal :
    ∀ st ∈ [StationState.joining, .resyncing],
      let s := fatally (awaiting st)
      let unsound := { soundContent with check := 1#16 }
      Receiving s ∧ WrittenFatal .divergence s ∧ WrittenFatal .joinRefused s ∧ s.membership.awaiting = true
        ∧ unsound.wellFormed = true ∧ snapshotSound unsound = false ∧ inSet unsound.members s.number = true
        ∧ Isolated s.replica s (after (.acceptSnapshot 1 3#8 unsound) s)
        ∧ (after (.acceptRefuse 1 3#8 8#16) s).membership.station = .refused
        ∧ (after (.acceptSnapshot 1 3#8 { soundContent with digest := 8#16 }) s).membership.station = .refused := by
  decide +kernel

/-- A RESYNCING station that awaits a snapshot, three pulses counted: an outlet ON, one whose start is deferred, one SOFT. -/
def reloading : State :=
  let s := steady .resyncing [⟨3, 1, 3, 5⟩, ⟨3, 2, 3, 5⟩] [] [outlet .on .full, outlet .admitted .reserve, outlet .admitted]
  { s with
    shed := { s.shed with localCount := 3, line := .recovering }
    membership := { s.membership with awaiting := true, snapshotWait := some 9 } }

/-- What the account of that station, changed, is sent as. -/
def reload (r : Replica) : SnapshotContent := snapshotOf 7#16 (checkOf r) r

/-- A load at its own account starts the outlet that holds the slot; one that raised the level to 2 leaves the count 1. -/
theorem test_meets_JoinerIsLoadedOrRefused_outlets :
    Steady reloading ∧ (Receiving reloading ∧ reloading.report.escalate = false ∧ reloading.report.events.length < 31
      ∧ reloading.settings.station.enable.getLsbD 3 = true
      ∧ (∀ r ∈ [reloading.replica, { reloading.replica with shedLevel := 2 }, { reloading.replica with start := [] },
            { reloading.replica with start := [], shedLevel := 4 }],
          snapshotSound (reload r) = true ∧ (reload r).wellFormed = true)
      ∧ statesAfter 3 (.acceptSnapshot 1 3#8 (reload reloading.replica)) reloading = [.on, .soft, .admitted]
      ∧ statesAfter 3 (.acceptSnapshot 1 3#8 (reload { reloading.replica with start := [] })) reloading
          = [.on, .queued, .queued]
      ∧ statesAfter 3 (.acceptSnapshot 1 3#8 (reload { reloading.replica with start := [], shedLevel := 4 })) reloading
          = [.shed, .shed, .shed]
      ∧ (after (.acceptSnapshot 1 3#8 (reload { reloading.replica with shedLevel := 2 })) reloading).shed.localCount = 1
      ∧ EventRecord.shedLevel 2
          ∈ (after (.acceptSnapshot 1 3#8 (reload { reloading.replica with shedLevel := 2 })) reloading).report.events) :=
  ⟨steady_of _ (by decide +kernel) (by decide +kernel), by decide +kernel⟩

theorem test_join_of_another_digest_refuses_a_joiner :
    (after (.acceptJoin 1 8#16) (awaiting .joining)).membership.station = .refused
      ∧ (after (.acceptJoin 1 8#16) (awaiting .resyncing)).membership.station = .resyncing
      ∧ (after (.acceptJoin 1 7#16) (awaiting .joining)).membership.station = .joining := by decide +kernel

theorem test_meets_JoiningStationHears :
    let s := awaiting .joining
    let own := sending (.join 7#16) 0 ⟨3, .join 7#16⟩ s
    Settled s ∧ DefaultSeverity s ∧ delivers s = true ∧ s.membership.waitExpired = false ∧ s.tie.tx = none
      ∧ s.settings.digest = some 7#16 ∧ s.membership.snapshotWait.isSome ∧ Settled own ∧ delivers own = true
      ∧ own.tie.tx.map Transmission.frame = some ⟨own.number, .join 7#16⟩ := by decide +kernel

/-- A SNAPSHOT for the station while it awaits none is not loaded and sets the founding mark, before its JOIN or RESYNC is accepted. -/
theorem test_meets_JoiningStationHears_unawaited :
    ∀ st ∈ [StationState.joining, .resyncing],
      let s := { awaiting st with membership := (active st).membership }
      let t := after (.acceptSnapshot 1 3#8 soundContent) s
      Settled s ∧ DefaultSeverity s ∧ s.membership.awaiting = false ∧ s.settings.digest = some soundContent.digest
        ∧ snapshotSound soundContent = true ∧ answersJoin s (.snapshot 3#8 soundContent) = false
        ∧ SentOrHeard s ⟨1, .snapshot 3#8 soundContent⟩ ∧ markAfter s (.snapshot 3#8 soundContent) = true
        ∧ t.membership.foundingMark = true ∧ t.membership.station = st ∧ t.replica = s.replica
        ∧ t.membership.awaiting = false := by decide +kernel

theorem test_forget_above_fifteen_sets_no_mark :
    ∀ st ∈ [StationState.joining, .resyncing],
      (after (.acceptForget 1 16#8) (awaiting st)).membership.foundingMark = false
        ∧ (after (.acceptForget 1 15#8) (awaiting st)).membership.foundingMark = true := by decide +kernel

/-- A station whose wait has run out during a frame, with the mark and the attempts as given. -/
def putOff (st : StationState) (mark : Bool) (attempt : Fin 4) : State :=
  let s := awaiting st
  { s with
    tie := { s.tie with receiving := true }
    membership := { s.membership with
      snapshotWait := none, waitExpired := true, foundingMark := mark, attempt := attempt } }

/-- A frame in RESYNCING: a PRESENCE sets the mark, an equal-digest JOIN restarts the wait. -/
theorem test_meets_JoiningStationHears_in_RESYNCING :
    let s := awaiting .resyncing
    Settled s ∧ DefaultSeverity s ∧ SentOrHeard s ⟨1, .presence 0#16⟩ ∧ answersJoin s (.presence 0#16) = false
      ∧ isEqualJoin s (.join 7#16) = true ∧ s.membership.waitExpired = false
      ∧ (after (.acceptPresence 1 0#16) s).membership.foundingMark = true
      ∧ (after (.acceptJoin 1 7#16) s).membership.foundingMark = false
      ∧ (after (.acceptJoin 1 7#16) { s with membership := { s.membership with snapshotWait := some 3 } }).membership.snapshotWait
          = some 100
      ∧ (let t := { s with membership := { s.membership with awaiting := false, snapshotWait := none, resyncWish := .again } }
         (after (.acceptPresence 1 0#16) t).membership.foundingMark = false) := by decide +kernel

/-- The frame during which the wait ran out is accepted: an equal-digest JOIN lets the station found, in JOINING with its sender
among the members; a PRESENCE ends the attempt; a SNAPSHOT for the station is loaded. -/
theorem test_meets_JoiningStationHears_put_off :
    (∀ st ∈ [StationState.joining, .resyncing],
      (∀ s ∈ [putOff st false 1, putOff st true 2, putOff st true 3],
        Settled s ∧ DefaultSeverity s ∧ SentOrHeard s ⟨1, .join 7#16⟩ ∧ s.membership.waitExpired = true)
        ∧ (after (.acceptJoin 1 7#16) (putOff st false 1)).membership.station = .synced
        ∧ (after (.acceptPresence 1 0#16) (putOff st false 2)).membership.attempt = 3
        ∧ namesFault (after (.acceptPresence 1 0#16) (putOff st false 3)).report.status .joinTimeout = true
        ∧ (after (.acceptSnapshot 1 3#8 soundContent) (putOff st true 3)).membership.station = .synced
        ∧ (after (.acceptSnapshot 1 3#8 { soundContent with check := 1#16 }) (putOff st false 2)).membership.attempt = 3)
      ∧ (after (.acceptJoin 1 7#16) (putOff .joining false 1)).replica.members = 0x000a#16
      ∧ (after (.acceptPresence 1 0#16) (putOff .joining false 3)).membership.station = .config
      ∧ isPosted (fun i => i == .resync false) (after (.acceptPresence 1 0#16) (putOff .resyncing false 1)) = true := by
  decide +kernel

/-- The frame is discarded: the expiry comes with the format error, the veto or the idle bus. -/
theorem test_meets_SnapshotWaitExpiry_put_off :
    ∀ c ∈ [Instr.busIdle, .formatError false, .formatError true, .frameVetoed badFrame],
      ∀ st ∈ [StationState.joining, .resyncing],
        (putOff st false 1).tie.tx = none ∧ delivers (putOff st false 1) = true
          ∧ (after c (putOff st false 1)).membership.station = .synced
          ∧ (after c (putOff st true 1)).membership.attempt = 2
          ∧ namesFault (after c (putOff st true 3)).report.status .joinTimeout = true := by decide +kernel

/-- Founding at the end of a discarded frame starts the outlet whose start was deferred. -/
theorem test_meets_SnapshotWaitExpiry_put_off_outlets :
    let s : State := { reloading with
      tie := { reloading.tie with receiving := true }
      membership := { reloading.membership with snapshotWait := none, waitExpired := true } }
    Steady s ∧ statesAfter 3 (.formatError false) s = [.on, .soft, .admitted] :=
  ⟨steady_of _ (by decide +kernel) (by decide +kernel), by decide +kernel⟩

/-- A SNAPSHOT for another station is compared by a SYNCED one, whatever its target (R61, R202). -/
theorem test_divergence_at_snapshot :
    ∀ target ∈ [5#8, 3#8, 16#8],
      let t := after (.acceptSnapshot 1 target emptyContent) (active .synced)
      namesFault t.report.status .divergence = true ∧ t.membership.station = .resyncing
        ∧ (after (.acceptSnapshot 4 target emptyContent) (active .synced)).membership.station = .synced := by decide +kernel

theorem test_meets_PresenceComparesChecks :
    let s := lostPeer (active .synced)
    Receiving s ∧ Settled s ∧ DefaultSeverity s ∧ (1 : StationNum) ≠ s.number ∧ s.membership.waitExpired = false
      ∧ s.membership.peers[1].presence = .lost ∧ 5#16 ≠ s.check ∧ (1 : StationNum).val < s.number.val
      ∧ s.number.val < (4 : StationNum).val := by decide +kernel

/-- DIVERGENCE and JOIN_REFUSED written fatal isolate a SYNCED and a LEAVING station. -/
theorem test_meets_PresenceComparesChecks_fatal :
    let s := fatally (steady .synced [] [] [outlet .on .full])
    let u := fatally (steady .leaving [] [] [])
    (Receiving s ∧ Settled s ∧ Receiving u ∧ Settled u ∧ WrittenFatal .divergence s ∧ WrittenFatal .joinRefused u
        ∧ 5#16 ≠ s.check ∧ emptyContent.check ≠ s.check ∧ s.settings.digest ≠ some 8#16 ∧ stationOf 5#8 ≠ some s.number)
      ∧ (∀ c ∈ [Instr.acceptPresence 1 5#16, .acceptPresence 4 5#16, .acceptSnapshot 1 5#8 emptyContent, .acceptRefuse 1 5#8 8#16,
            .acceptRefuse 1 3#8 8#16], decide (Isolated s.replica s (after c s)) = true)
      ∧ ∀ c ∈ [Instr.acceptRefuse 1 5#8 8#16, .acceptRefuse 1 3#8 8#16], decide (Isolated u.replica u (after c u)) = true := by
  decide +kernel

/-- A SYNCED station that forgets station 5, in the set and LOST. -/
def forgetting : State :=
  let s := steady .synced [] [] []
  let r : Replica := { s.replica with members := 0x002a#16 }
  { s with
    replica := r, check := checkOf r
    membership := { s.membership with peers := s.membership.peers.set 5 { presence := .lost } }
    tie := { s.tie with queue := [⟨0, .forget 5, 0, false⟩], nextSeq := 9 } }

/-- Its own FORGET accepted clears the duty for that station and withdraws the frame of the duty (R59, R79). -/
theorem test_meets_DutiesTakenAndCleared_own_FORGET :
    let s := flyingFirst [.forget 5, .snapshot 5] { forgetting with
      membership := { forgetting.membership with
        peers := forgetting.membership.peers.set 5 { presence := .lost, duty := .snapshot } } }
    Steady s ∧ SentOrHeard s ⟨3, .forget 5#8⟩ ∧ SentOrHeard onDuty ⟨1, .forget 5#8⟩
      ∧ ((5 : StationNum) ≠ s.number ∧ delivers s = true ∧ (after (.acceptForget 3 5#8) s).membership.peers[5].duty = .none
        ∧ (after (.acceptForget 3 5#8) s).tie.queue = []
        ∧ (after (.acceptForget 3 5#8) s).membership.station = .synced) :=
  ⟨steady_of _ (by decide +kernel) (by decide +kernel), Or.inr ⟨rfl, _, rfl, rfl⟩, by decide +kernel, by decide +kernel⟩

theorem test_forget_withdrawn_when_its_target_comes_back :
    isPosted (fun i => i == .forget 5) (after (.acceptPresence 5 forgetting.check) forgetting) = false
      ∧ isPosted (fun i => i == .forget 5) (after (.acceptForget 1 5#8) forgetting) = true
      ∧ isPosted (fun i => i == .forget 5) (after (.acceptJoin 5 7#16) (after (.acceptForget 1 5#8) forgetting)) = false := by
  decide +kernel

/-- A JOINING or RESYNCING station whose snapshot wait runs. -/
def waiting (st : StationState) (mark : Bool) (attempt : Fin 4) : State :=
  { awaiting st with
    membership := { (awaiting st).membership with foundingMark := mark, attempt := attempt } }

theorem test_meets_SnapshotWaitExpiry :
    ∀ st ∈ [StationState.joining, .resyncing], ∀ s ∈ [waiting st false 1, waiting st true 2, waiting st true 3],
      s.resetting = none ∧ DefaultSeverity s ∧ s.report.escalate = false ∧ s.membership.station = st
        ∧ s.membership.snapshotWait ≠ none ∧ s.tie.receiving = false ∧ placeFree .membership s = true
        ∧ anySoft s = false ∧ railLow s = false ∧ Settled s ∧ delivers s = true ∧ s.tie.tx = none := by decide +kernel

/-- Founding from RESYNCING starts the outlet whose start was deferred and leaves the count. -/
theorem test_meets_SnapshotWaitExpiry_outlets :
    Steady reloading ∧ reloading.membership.foundingMark = false
      ∧ statesAfter 3 (.snapshotWaitExpiry false) reloading = [.on, .soft, .admitted]
      ∧ (after (.snapshotWaitExpiry false) reloading).outlets[1].gap = some 2
      ∧ (after (.snapshotWaitExpiry false) reloading).shed = reloading.shed :=
  ⟨steady_of _ (by decide +kernel) (by decide +kernel), by decide +kernel⟩

/-- The third attempt ends with JOIN_TIMEOUT written fatal: CONFIG from JOINING, ISOLATED from RESYNCING. -/
theorem test_meets_SnapshotWaitExpiry_fatal :
    let s (st : StationState) : State := fatally (waiting st true 3)
    (∀ st ∈ [StationState.joining, .resyncing], (s st).membership.station = st ∧ (s st).membership.snapshotWait ≠ none
        ∧ (s st).tie.receiving = false ∧ (s st).membership.attempt = 3 ∧ WrittenFatal .joinTimeout (s st))
      ∧ (after (.snapshotWaitExpiry false) (s .joining)).membership.station = .config
      ∧ Isolated (s .resyncing).replica (s .resyncing) (after (.snapshotWaitExpiry false) (s .resyncing)) := by
  decide +kernel

theorem test_expiry_during_a_frame_is_put_off :
    let s := after (.snapshotWaitExpiry true) (waiting .joining false 1)
    s.membership.station = .joining ∧ s.membership.waitExpired = true ∧ s.tie.receiving = true
      ∧ (after (.acceptRestore 1) s).membership.waitExpired = false
      ∧ (after (.acceptRestore 1) s).membership.awaiting = false := by decide +kernel

/-- A station whose membership timers run, station 2 PRESENT. -/
def timed (st : StationState) : State :=
  { active st with
    membership := { (active st).membership with
      presenceTimer := some 1, muteTimer := some 1, isolationTimer := some 1
      peers := (active st).membership.peers.set 2 { presence := .present } } }

theorem test_meets_MembershipTimers :
    (timed .synced).membership.presenceTimer ≠ none ∧ placeFree .presence (timed .synced) = true
      ∧ placeFree .presence (posting .presence 0 (timed .synced)) = false
      ∧ Settled (timed .synced) ∧ DefaultSeverity (timed .synced) ∧ following (timed .synced) = true
      ∧ (timed .synced).membership.peers[2].presence = .present
      ∧ (timed .mute).membership.muteTimer ≠ none ∧ anySoft (timed .mute) = false
      ∧ placeFree .membership (timed .mute) = true ∧ anySoft (withOutlet (outlet .soft .weak) (timed .mute)) = true
      ∧ (timed .mute).membership.isolationTimer ≠ none ∧ (timed .mute).membership.station ≠ .dormant := by decide +kernel

/-! ## Outlets, the shed line, monitors, clocks, resets -/

theorem test_meets_SoftStartAndSettle_and_OutletTimersAndTrip :
    (∀ x ∈ [outlet .soft, outlet .soft .weak, outlet .on .full, outlet .stopping .weak, outlet .off, outlet .queued .reserve,
          outlet .waiting .reserve, outlet .admitted .reserve, outlet .shed .reserve, outlet .shed .weak,
          outlet .dropped .weak (some .on)],
        let s := withOutlet x (at' .synced)
        s.resetting = none ∧ s.membership.station ≠ .dormant ∧ Settled s ∧ DefaultSeverity s ∧ s.outlets[0] = x
          ∧ s.pins.trip.getLsbD 0 = false ∧ s.pins.settle.getLsbD 0 = false ∧ placeFree (.outlet 0) s = true)
      ∧ (outlet .soft).gap ≠ none ∧ (outlet .soft .weak).settle ≠ none ∧ (outlet .stopping .weak).bleed ≠ none
      ∧ claimInFlight 0 (sending (.claim 0 3 5) 0 ⟨3, .leave⟩ (withOutlet (outlet .queued .reserve) (at' .synced))) = true
      ∧ Settled (sending (.claim 0 3 5) 0 ⟨3, .leave⟩ (withOutlet (outlet .queued .reserve) (at' .synced)))
      ∧ placeFree (.outlet 0) { at' .synced with
          tie := { (at' .synced).tie with queue := [one (.cancel 0) 0, one (.release 0 3 5) 0] } } = false := by
  decide +kernel

/-- A station with an outlet that bleeds to OFF beside one that is ON. -/
def bleeding : State := steady .synced [] [] [outlet .stopping .weak, outlet .on .full]

/-- SETTLE_TIMEOUT and OVERCURRENT written fatal, in each state of an outlet that trips; a STOPPING one goes to OFF first. -/
theorem test_meets_OutletTimersAndTrip_fatal :
    (Calm (fatally admitted) ∧ Calm (fatally starting) ∧ Calm (fatally bleeding))
      ∧ (following (fatally starting) = true ∧ WrittenFatal .settleTimeout (fatally starting)
        ∧ WrittenFatal .overcurrent (fatally starting) ∧ (fatally starting).outlets[0].settle ≠ none)
      ∧ isolatesWith (.settleTimerExpiry 0) (fatally starting)
          [.fault .settleTimeout, .outlet 0 .fault .settleTimeout, .station .isolated .fatal, .outlet 0 .off .station] = true
      ∧ isolatesWith (.trip 0 true) (fatally starting)
          [.fault .overcurrent, .outlet 0 .fault .overcurrent, .station .isolated .fatal, .outlet 0 .off .station] = true
      ∧ (∀ o ∈ [(0 : OutletNum), 3], isolatesWith (.trip o true) (fatally admitted)
          [.fault .overcurrent, .outlet o .fault .overcurrent, .station .isolated .fatal, .outlet 0 .off .station,
            .outlet 2 .off .station, .outlet 3 .off .station] = true)
      ∧ isolatesWith (.trip 0 true) (fatally bleeding)
          [.fault .overcurrent, .outlet 0 .off .bleed, .station .isolated .fatal, .outlet 1 .off .station] = true :=
  ⟨⟨calm_of _ (by decide +kernel) (by decide +kernel), calm_of _ (by decide +kernel) (by decide +kernel),
    calm_of _ (by decide +kernel) (by decide +kernel)⟩, by decide +kernel⟩

/-- A SOFT outlet with its inputs as given, before the weak switch closes and before the strong one does. -/
def startingWith (path : OutletPath) (trip settle : Byte) : State :=
  let s := steady .synced [⟨3, 0, 3, 5⟩] [] [outlet .soft path]
  { s with pins := { s.pins with trip := trip, settle := settle } }

/-- One input asserted, or both, as the weak switch closes; the trip input as the strong one does. -/
theorem test_meets_SoftStartAndSettle_inputs_asserted :
    (Lawful (startingWith .allOpen 1#8 1#8) ∧ Lawful (startingWith .weak 1#8 0#8))
      ∧ ((startingWith .allOpen 1#8 1#8).outlets[0].gap ≠ none ∧ placeFree (.outlet 0) (startingWith .allOpen 1#8 1#8) = true
        ∧ placeFree (.outlet 0) (startingWith .weak 1#8 0#8) = true)
      ∧ statesAfter 1 (.gapExpiry 0) (startingWith .allOpen 1#8 0#8) = [.fault]
      ∧ (after (.gapExpiry 0) (startingWith .allOpen 1#8 0#8)).tie.queue.map Posted.item = [.cancel 0]
      ∧ statesAfter 1 (.gapExpiry 0) (startingWith .allOpen 0#8 1#8) = [.on]
      ∧ (after (.gapExpiry 0) (startingWith .allOpen 0#8 1#8)).outlets[0].path = .full
      ∧ (after (.settle 0 true) (startingWith .weak 1#8 0#8)).tie.queue.map Posted.item = [.release 0 3 5] :=
  ⟨⟨lawful_of _ (by decide +kernel), lawful_of _ (by decide +kernel)⟩, by decide +kernel⟩

theorem test_meets_shed_line_statements :
    (∀ s ∈ [shedding .ready 7, shedding .ready 8, shedding .recovering 0, shedding .asserted 1],
        s.resetting = none ∧ following s = true ∧ s.membership.station ≠ .dormant ∧ Settled s ∧ DefaultSeverity s
          ∧ s.shed.driving = false ∧ s.shed.frameWait ≠ none ∧ placeFree .shed s = true ∧ s.clock.pll ≠ .locked
          ∧ s.port.drained = s.port.drainSet.isEmpty)
      ∧ { (shedding .ready 1).shed with driving := true }.driving = true
      ∧ { (shedding .ready 1).shed with stepTimer := some 1 }.stepTimer ≠ none
      ∧ { (shedding .ready 1).clock with pll := .locked }.pll = .locked := by decide +kernel

/-- Falls that are not counted: from READY outside the states that count, with the line not READY, in DORMANT and in a reset. -/
theorem test_meets_ShedLineAndTimers_uncounted :
    let ready (st : StationState) : State := { at' st with shed := { (at' st).shed with line := .ready } }
    (∀ st ∈ [StationState.config, .joining, .refused, .isolated], following (ready st) = false
        ∧ (after .shedPulse (ready st)).shed = { (ready st).shed with line := .asserted }
        ∧ (after .shedPulse (ready st)).pins.shedLow = true ∧ (after .shedPulse (ready st)).report = (ready st).report)
      ∧ (∀ line ∈ [LineState.asserted, .recovering], (shedding line 1).shed.line ≠ .ready
          ∧ after .shedPulse (shedding line 1) = shedding line 1)
      ∧ (∀ s ∈ [ready .dormant, { ready .synced with resetting := some ⟨.powerOn, false⟩ }],
          (s.resetting ≠ none ∨ s.membership.station = .dormant) ∧ (after .shedPulse s).shed = s.shed
            ∧ (after .uncountedShedFall s).pins.shedLow = true ∧ (after .shedLineRise s).pins.shedLow = false
            ∧ after .shedLineReady s = s) := by decide +kernel

/-- The shed-frame wait expires with SHED posted, with RESTORE in flight, with RESTORE waiting. -/
theorem test_meets_ShedLineAndTimers_place_held :
    let s := sheddingLawful .recovering 3
    let s := { s with shed := { s.shed with frameWait := some 0 } }
    let posted : QueueItem → State := fun q => { s with tie := { s.tie with queue := [⟨0, q, 0, false⟩], nextSeq := 9 } }
    Lawful (posted .restore) ∧ (isPosted isShed (posted (.shed 1)) = true ∧ isPosted isShed (flyingFirst [.restore] s) = false
      ∧ (after .shedFrameWaitExpiry (posted (.shed 1))).tie.queue.map Posted.item = [.shed 3]
      ∧ (after .shedFrameWaitExpiry (flyingFirst [.restore] s)).shed.postPending = true
      ∧ (after .shedFrameWaitExpiry (flyingFirst [.restore] s)).tie.queue.map Posted.marked = [true]
      ∧ (after .shedFrameWaitExpiry (posted .restore)).tie.queue.map Posted.item = [.shed 3]) :=
  ⟨lawful_of _ (by decide +kernel), by decide +kernel⟩

theorem test_meets_MonitorsSetFlags :
    let s := at' .synced
    s.resetting = none ∧ s.clock.running = true ∧ Settled s ∧ DefaultSeverity s ∧ s.rail.live = false
      ∧ s.reserve.live = false ∧ s.settings.station.railThreshold.val = 8 ∧ 759 < 600 + 20 * 8
      ∧ s.rail.inrush = false ∧ s.settings.station.sagFilter.val ≤ s.rail.count.val + 4
      ∧ s.rail.count.val + 3 < s.settings.station.sagFilter.val ∧ 600 + 20 * 8 ≤ 760
      ∧ s.settings.station.reserveThreshold = .standard ∧ 849 < 850 ∧ 2 ≤ s.reserve.count.val + 2 := by decide +kernel

/-- A JOINING station that obeys every law, its JOIN posted. -/
def joiner : State := { failingJoin 2 with tie := { (failingJoin 2).tie with tx := none } }

/-- A SYNCED station whose rail has not sagged yet, its line READY. -/
def beforeSag : State := fatally { sheddingLawful .ready 3 with rail := {} }

/-- RAIL_SAG and RESERVE_LOW written fatal: the pulse of the demand is on the line, the outlets it dropped go to OFF. -/
theorem test_meets_MonitorsSetFlags_fatal :
    (Lawful beforeSag ∧ Calm (fatally admitted) ∧ Calm (fatally joiner))
      ∧ (following beforeSag = true ∧ WrittenFatal .railSag beforeSag ∧ WrittenFatal .reserveLow beforeSag
        ∧ beforeSag.clock.running = true)
      ∧ isolatesWith (.railSagRise 759 4) beforeSag [.fault .railSag, .outlet 0 .dropped .pulse, .station .isolated .fatal,
          .outlet 0 .off .station, .outlet 1 .off .station] = true
      ∧ ((after (.railSagRise 759 4) beforeSag).pins.shedLow = true ∧ (after (.railSagRise 759 4) beforeSag).shed.line = .asserted)
      ∧ isolatesWith (.reserveLowRise 849 2) (fatally admitted) [.fault .reserveLow, .outlet 0 .admitted .reserveLow,
          .station .isolated .fatal, .outlet 0 .off .station, .outlet 2 .off .station, .outlet 3 .off .station] = true
      ∧ isolatesWith (.railSagRise 759 4) (fatally joiner) [.fault .railSag, .station .isolated .fatal] = true
      ∧ isolatesWith (.reserveLowRise 849 2) (fatally joiner) [.fault .reserveLow, .station .isolated .fatal] = true :=
  ⟨⟨lawful_of _ (by decide +kernel), calm_of _ (by decide +kernel) (by decide +kernel),
    calm_of _ (by decide +kernel) (by decide +kernel)⟩, by decide +kernel⟩

/-- In CONFIG, REFUSED and ISOLATED they are recorded and no more. -/
theorem test_meets_MonitorsSetFlags_recorded_only :
    ∀ c ∈ [(Instr.railSagRise 759 4, FaultName.railSag), (.reserveLowRise 849 2, .reserveLow)],
      ∀ st ∈ [StationState.config, .refused, .isolated],
        let s := fatally (at' st)
        Settled s ∧ (after c.1 s).membership = s.membership ∧ (after c.1 s).report.events = [.fault c.2] := by decide +kernel

/-- A severity set that names OVERCOMMIT alone beside the faults held fatal leaves the monitors' faults advisory. -/
theorem test_meets_advisory_faults :
    let s := mildly (at' .synced)
    Advisory [.railSag, .eventOverflow] s ∧ Advisory [.reserveLow, .eventOverflow] s ∧ Advisory [.overcurrent, .eventOverflow] s
      ∧ Advisory [.settleTimeout, .eventOverflow] s ∧ ¬DefaultSeverity s ∧ WrittenFatal .overcommit s := by decide +kernel

/-- An ON outlet of a station whose event queue holds records, with an enable set, a mask and a pointer. -/
def recording (records : Nat) (enable : BitVec 5) (mask : Half) (first : Option FaultName) : State :=
  let s := withOutlet (outlet .on .full) (at' .synced)
  { s with
    report := { s.report with events := List.replicate records (.shedLevel 1), first := first }
    settings := { s.settings with station := { s.settings.station with enable := enable, mask := mask } } }

/-- A trip posts its FAULT record before its OUTLET record and sets the clear pointer; at 31 and 32 records posts are dropped;
a disabled kind posts nothing and drops nothing; a masked fault sets no pointer, and a set pointer stays. -/
theorem test_trip_is_recorded :
    let t (n : Nat) (e : BitVec 5) (m : Half) (p : Option FaultName) : Report := (after (.trip 0 true) (recording n e m p)).report
    (t 0 31#5 0#16 none).events = [.fault .overcurrent, .outlet 0 .fault .overcurrent]
      ∧ (t 0 31#5 0#16 none).first = some .overcurrent ∧ (t 0 31#5 0#16 none).overflow = false
      ∧ (t 31 31#5 0#16 none).events.length = 32 ∧ (t 31 31#5 0#16 none).overflow = true
      ∧ (t 32 31#5 0#16 none).first = some .overcurrent ∧ namesFault (t 32 31#5 0#16 none).status .eventOverflow = true
      ∧ (t 32 31#5 0x0200#16 none).first = some .eventOverflow ∧ (t 0 31#5 0x0200#16 none).first = none
      ∧ (t 0 31#5 0#16 (some .railSag)).first = some .railSag
      ∧ (t 32 14#5 0#16 none).overflow = false ∧ (t 32 14#5 0#16 none).first = some .overcurrent
      ∧ namesFault (t 32 14#5 0#16 none).status .overcurrent = true ∧ (t 0 14#5 0#16 none).events = [] := by decide +kernel

theorem test_counts_stop_where_the_flags_set :
    (after (.railSagRise 759 10) (at' .synced)).rail.count = 4
      ∧ (after (.reserveLowRise 849 10) (at' .synced)).reserve.count = 2 := by decide +kernel

/-- A station whose clock stands as given. -/
def clocked (st : StationState) (source : ClockSource) (pll : PllState) : State :=
  { active st with clock := { source := source, pll := pll, starting := some .crystal8, lockLimit := some 5 } }

theorem test_meets_ClockStartsAndFails :
    (let s := clocked .config .internal .starting
     s.resetting = none ∧ Settled s ∧ DefaultSeverity s ∧ placeFree .membership s = true ∧ s.clock.lockLimit ≠ none
       ∧ s.clock.starting = some .crystal8)
      ∧ (∀ st ∈ [StationState.joining, .synced, .resyncing, .mute, .leaving, .config, .refused],
          let s := clocked st .crystal8 .locked
          s.resetting = none ∧ s.membership.station = st ∧ s.clock.pll = .locked ∧ s.clock.source ≠ .internal
            ∧ s.clock.running = true)
      ∧ (clocked .config .crystal8 .stopped).clock.pll = .stopped := by decide +kernel

/-- A station with a fault recorded, before CLEAR_FAULTS and a reset during its execution. -/
def faulted : State :=
  let s := at' .synced
  { s with report := { s.report with status := 0x0800#16, first := some .railSag, attention := true } }

theorem test_meets_ResetBeginsAndCompletes :
    State.reset.resetting = none ∧ Ready State.reset ∧ State.reset.unexecuted = none
      ∧ (after (.clearFaults 0x0800#16) faulted).unexecuted.map Station.report = some faulted.report
      ∧ ∀ cause ∈ [ResetCause.powerOn, .resetInput, .resetCommand], ∀ held : Bool,
          { State.reset with resetting := some ⟨cause, held⟩ }.resetting = some ⟨cause, held⟩ := by decide +kernel

/-- A reset that begins during another: its cause, and the input held or not, as log entry 28 has them. -/
theorem test_meets_ResetBeginsAndCompletes_during_another :
    let reset (cause : ResetCause) (held : Bool) : State := { State.reset with resetting := some ⟨cause, held⟩ }
    (∀ cause ∈ [ResetCause.powerOn, .resetInput, .resetCommand], ∀ held : Bool,
        (after .powerOnReset (reset cause held)).resetting = some ⟨.powerOn, held⟩)
      ∧ (∀ cause ∈ [ResetCause.resetInput, .resetCommand], ∀ held : Bool,
          (after .resetInput (reset cause held)).resetting = some ⟨.resetInput, true⟩)
      ∧ (∀ held : Bool, after .resetInput (reset .powerOn held) = reset .powerOn true)
      ∧ (let s := after .reset (at' .synced)
         s.port.executing = some ⟨16#8, none⟩ ∧ (after .resetInput s).port.executing = none
          ∧ (after .resetInput s).resetting = some ⟨.resetInput, true⟩) := by decide +kernel

theorem test_reset_abandons_the_execution :
    let s := after (.clearFaults 0x0800#16) faulted
    (after .resetInput s).report.status = 0x0800#16 ∧ (after .resetInput s).report.first = some .railSag
      ∧ (after .resetInput (after .executionComplete s)).report.status = 0#16 := by decide +kernel

/-- A SET_LOCAL of the default record but for its rail threshold, the highest. -/
def sensitive : RawLocal := ⟨0#8, 0#8, 15#8, 4#8, 20#8, 50#16, 0#8, 31#8, 0#16, 0x8090#16⟩

/-- Rows while a request executes act on the station without its effect too (log entry 7): a reading that is a sag by the new
threshold alone leaves nothing in a reset that abandons the SET_LOCAL, and the low cell that comes while a DORMANT executes
stays in one that abandons the DORMANT. -/
theorem test_rows_during_an_abandoned_execution :
    let sagged := after (.railSagRise 850 4) (after (.setLocal sensitive) (at' .config))
    let low := after (.reserveLowRise 849 2) (after (.dormant 1#8) (at' .config))
    sagged.rail.sticky = true ∧ namesFault sagged.report.status .railSag = true
      ∧ (after .resetInput sagged).rail.sticky = false ∧ namesFault (after .resetInput sagged).report.status .railSag = false
      ∧ (after .resetInput (after .executionComplete sagged)).rail.sticky = true
      ∧ low.reserve.sticky = false ∧ (after .resetInput low).reserve.sticky = true
      ∧ namesFault (after .resetInput low).report.status .reserveLow = true
      ∧ (after .resetInput (after .executionComplete low)).reserve.sticky = false := by decide +kernel

/-- The two stations while a RESTORE executes whose frame this one sends: its acceptance does not concern the other. -/
theorem test_meets_ExecutionsAndRequestsTurnedAway_beside :
    let s := after .restore { active .synced with tie := { (active .synced).tie with recessive := 12 } }
    let t := after .startAttempt s
    ofPortOrReset .startAttempt = false ∧ ofTieBus .startAttempt = true ∧ s.unexecuted.isSome = true ∧ s.tie.tx = none
      ∧ t.tie.tx.isSome = true ∧ t.unexecuted.map (fun x => x.tie.tx) = some none
      ∧ (after (.acceptRestore 3) t).tie.queue = [] ∧ (after (.acceptRestore 3) t).unexecuted = t.unexecuted
      ∧ ofTieBus .shedPulse = false ∧ s.pending = [] := by decide +kernel

/-- A SHED command that a reset abandons leaves the line high: RECOVERING at completion (R179). -/
theorem test_reset_abandons_a_shed :
    let s := after .shed (shedding .ready 3)
    s.pins.shedLow = true ∧ (after .resetInput s).pins.shedLow = false
      ∧ (after (.resetCompletion 3) (after .resetInputRelease (after .resetInput s))).shed.line = .recovering
      ∧ (after (.resetCompletion 3) (after .resetInputRelease (after .resetInput (after .executionComplete s)))).shed.line
          = .asserted := by decide +kernel

/-! ## Every step keeps the laws: states that obey them and go on -/

theorem test_meets_step_invariants :
    Both Lawful admitted ∧ Lawful onDuty ∧ Lawful resyncing
      ∧ (∃ t, step { admitted with pending := [.acceptStarted 1 0#8] } = .next t ∧ t.resetting = none) ∧ ∃ t, step admitted = .next t :=
  ⟨both_of_none (lawful_of _ (by decide +kernel)) rfl, lawful_of _ (by decide +kernel), lawful_of _ (by decide +kernel),
   ⟨_, rfl, by decide +kernel⟩, onBoth tick admitted, rfl⟩

/-- While an OUTLET_OFF executes both stations obey every law. -/
theorem test_meets_step_invariants_while_executing :
    Both Lawful (after (.outletOff 0#8) admitted) ∧ (after (.outletOff 0#8) admitted).unexecuted.isSome = true :=
  ⟨⟨lawful_of _ (by decide +kernel), fun x hx => by
      obtain rfl : x = _ := (Option.some.inj (hx.symm.trans rfl))
      exact lawful_of _ (by decide +kernel)⟩, by decide +kernel⟩

/-- A step that sets the status of a fault written fatal: the station is a member before and none after. -/
theorem test_meets_StepLeavesNothingToBeDone_fatal :
    let s := { fatally admitted with pending := [.trip 3 true] }
    Both Lawful s ∧ ∃ t, step s = .next t ∧ (WrittenFatal .overcurrent s ∧ namesFault s.report.status .overcurrent = false
      ∧ namesFault t.report.status .overcurrent = true ∧ s.membership.station = .synced ∧ t.membership.station = .isolated) :=
  ⟨both_of_none (lawful_of _ (by decide +kernel)) rfl, _, rfl, by decide +kernel⟩

/-- A standing duty with the snapshot place taken and a RESYNC waited for with an outlet in SOFT are settled. -/
theorem test_settled_with_work_that_waits :
    Settled onDuty ∧ (∃ n : StationNum, onDuty.membership.peers[n].duty ≠ .none)
      ∧ (let s := withOutlet (outlet .soft .weak) (at' .resyncing)
         Settled { s with membership := { s.membership with resyncWish := .first } }) := by decide +kernel

theorem test_meets_StepKeepsCheckFlagsAndReport :
    checkLawful admitted ∧ stickyLawful admitted ∧ drainLawful admitted ∧ reportLawful admitted ∧ noPairTwice admitted.replica :=
  have h := (test_meets_step_invariants).1.1
  ⟨h.1.1, h.1.2.2.1, h.1.2.2.2, h.1.2.1, h.2.1.2.2.2⟩

end Sys2Proof.Tests
end

section
namespace Sys2Proof.Proofs
open Sys2Proof.Machine

/-! ## The limit for a priority (R15) -/

/-- Below the essential priority the headroom is kept free. -/
theorem limit_of_lt_essential {c : SharedSettings} {p : Prio} (h : p.val < c.essential.val) :
    limit c p = c.capacity.val - c.headroom.val :=
  if_pos h

/-- From the essential priority on, the headroom may be used. -/
theorem limit_of_essential_le {c : SharedSettings} {p : Prio} (h : c.essential.val ≤ p.val) :
    limit c p = c.capacity.val :=
  if_neg (Nat.not_lt.mpr h)

/-- Settles O30: the two sides of the essential priority are the two cases of the limit. -/
theorem limitByPriority : Obligations.LimitByPriority := by
  unfold Obligations.LimitByPriority
  intro c p
  exact ⟨limit_of_lt_essential, limit_of_essential_le⟩

end Sys2Proof.Proofs
end

section
namespace Sys2Proof.Proofs
open Sys2Proof.Machine

/-! ## Outlet numbers and pairs -/

/-- The byte of an outlet number is read back to it. -/
@[simp] theorem outletOf_outletByte (o : OutletNum) : outletOf (outletByte o) = some o := by
  have hval : (outletByte o).toNat = o.val := Nat.mod_eq_of_lt (by omega)
  simp [outletOf, hval]

/-- A list in which no entry is that of the pair answers no to a search for it. -/
theorem any_isPair_eq_false {s : StationNum} {o : OutletNum} {l : List Entry}
    (h : ∀ e ∈ l, ¬(e.station = s ∧ e.outlet = o)) : l.any (isPair s o) = false := by
  simpa [isPair] using h

/-! ## What holds of a pair without an entry (R9, R34) -/

section
variable {r : Replica} {s : StationNum} {o : OutletNum}
  (h : ∀ e ∈ r.wait ++ r.start, ¬(e.station = s ∧ e.outlet = o))
include h

/-- Neither the wait list nor the start queue has an entry of the pair. -/
theorem no_pair_in_lists : r.wait.any (isPair s o) = false ∧ r.start.any (isPair s o) = false :=
  ⟨any_isPair_eq_false fun e he => h e (List.mem_append_left _ he),
   any_isPair_eq_false fun e he => h e (List.mem_append_right _ he)⟩

/-- A pair without an entry is ABSENT, whatever the number of slots. -/
theorem standingOf_eq_absent (k : Nat) : standingOf k r s o = .absent := by
  obtain ⟨hwait, hstart⟩ := no_pair_in_lists h
  have hslot : (r.start.take k).any (isPair s o) = false :=
    any_isPair_eq_false fun e he => h e (List.mem_append_right _ (List.mem_of_mem_take he))
  simp [standingOf, hslot, hstart, hwait]

/-- A CANCEL for a pair without an entry changes nothing before the pass. -/
theorem applyCancel_of_no_entry : applyCancel r s o = { replica := r } := by
  obtain ⟨hwait, hstart⟩ := no_pair_in_lists h
  have hfind : r.start.find? (isPair s o) = none := by simpa using hstart
  simp [applyCancel, hwait, hfind]

end

/-! ## The account and the reports of a CANCEL (R33, R34, R40, R43) -/

/-- A CANCEL that names an outlet is applied, and the pass runs. -/
theorem accountChange_cancel (c : SharedSettings) (d : Option Half) (r : Replica) (s : StationNum) (o : OutletNum) :
    accountChange c d r ⟨s, .cancel (outletByte o)⟩ = thenPass c (applyCancel r s o) := by
  simp [accountChange]

/-- A station's own CANCEL is the own outlet frame of the outlet that it names. -/
theorem ownOutletFrame_cancel (s : StationNum) (o : OutletNum) :
    ownOutletFrame s ⟨s, .cancel (outletByte o)⟩ = some (o, .cancel) := by
  simp [ownOutletFrame]

/-- A standing that stays as it was has the cause NONE. -/
@[simp] theorem reportCause_self (n : StationNum) (f : TieFrame) (st : Standing) : reportCause n f st st = .none :=
  if_pos rfl

/-- The report given for the outlet of an own outlet frame: there is one, be the standing changed or not. -/
theorem reportFor_own_frame {f : TieFrame} {number : StationNum} {o : OutletNum} {kind : OutletFrame}
    (hown : ownOutletFrame number f = some (o, kind)) (k : Nat) (before : Replica) (change : AccountChange) :
    let new := standingOf k change.replica number o
    reportFor k number true f before change o =
      some { outlet := o, standing := new, cause := reportCause number f (standingOf k before number o) new,
             own := some kind, outcome := if kind = .claim then change.outcome else none } := by
  simp [reportFor, hown]

/-- A report given for an outlet is among the reports of the change. -/
theorem mem_reportsOf_of_reportFor {k : Nat} {number : StationNum} {sent : Bool} {f : TieFrame} {before : Replica}
    {change : AccountChange} {o : OutletNum} {rep : OutletReport}
    (h : reportFor k number sent f before change o = some rep) : rep ∈ reportsOf k number sent f before change :=
  List.mem_filterMap.mpr ⟨o, mem_allOutlets o, h⟩

/-- Settles O34: the CANCEL leaves the replica to the pass, and its sender's report compares the standing with ABSENT. -/
theorem cancelWithoutEntry : Obligations.CancelWithoutEntry := by
  unfold Obligations.CancelWithoutEntry
  intro c d r s o k h change
  have hchange : change = thenPass c { replica := r } :=
    (accountChange_cancel c d r s o).trans (by rw [applyCancel_of_no_entry h])
  have hreport := reportFor_own_frame (ownOutletFrame_cancel s o) k r change
  have hcause (habsent : standingOf k change.replica s o = .absent) :
      reportCause s ⟨s, .cancel (outletByte o)⟩ (standingOf k r s o) (standingOf k change.replica s o) = .none := by
    rw [standingOf_eq_absent h, habsent, reportCause_self]
  exact ⟨by rw [hchange, thenPass], by rw [hchange, thenPass], by rw [hchange, thenPass],
    _, mem_reportsOf_of_reportFor hreport, rfl, rfl, hcause⟩

end Sys2Proof.Proofs
end

section
namespace Sys2Proof.Proofs
open Sys2Proof.Machine Sys2Proof.Safety Sys2Proof.Laws

/-! ## A request that a ready port takes (R170 to R173) -/

/-- The bytes that a request puts into the port: its code, the number of its argument bytes, and these. -/
def requestBytes (code : Byte) (args : List Byte) : List Byte := code :: BitVec.ofNat 8 args.length :: args

section
variable {code : Byte} {args : List Byte} {effect : State → State × Answer} {s : State}

/-- A request to a ready port leaves, but for the port and the station kept beside, what its effect makes of the captured
station. -/
theorem request_effect (h : Ready s) :
    request code args effect s =
      served (effect (capturing (requestBytes code args) s)).1 (request code args effect s) := by
  rw [request_ready h]; rfl

/-- While a request captured by a ready port executes, the station stands beside as it was, but for the port (R179). -/
theorem request_unexecuted (h : Ready s) :
    (request code args effect s).unexecuted =
      some { s.toStation with port := (capturing (requestBytes code args) s).port } := by
  rw [request_ready h, execute]
  exact congrArg (fun u : State => some u.toStation) (capturing_ready h)

/-- The port of a ready station at the end of a request: that of its effect, with the answer formed. -/
theorem request_port (h : Ready s) :
    (request code args effect s).port =
      let result := effect (capturing (requestBytes code args) s)
      { result.1.port with executing := some ⟨code, some ⟨result.2.status, code, result.2.data⟩⟩ } := by
  rw [request_ready h]; rfl

/-- A request whose effect leaves the port alone is answered as its effect gives it. -/
theorem request_answered (h : Ready s) (hport : ∀ u, (effect u).1.port = u.port) :
    Answered s (request code args effect s) code
      (effect (capturing (requestBytes code args) s)).2.status (effect (capturing (requestBytes code args) s)).2.data := by
  obtain ⟨hdrainSet, hdrained, -⟩ := capturing_memory (bytes := requestBytes code args) h
  refine ⟨?_, ?_, ?_, _, request_unexecuted h, rfl, hdrainSet, hdrained⟩ <;> simp only [request_port h, hport] <;> rfl

/-- A request whose effect leaves the port alone leaves what the port remembers. -/
theorem request_memory (h : Ready s) (hport : ∀ u, (effect u).1.port = u.port) :
    SamePortMemory s (request code args effect s) := by
  simpa only [SamePortMemory, request_port h, hport] using capturing_memory h

end

/-! ## CLEAR_FAULTS on the report unit (R190) -/

/-- A fault set less another names the faults of the first that the second does not name. -/
theorem namesFault_and_not (a b : Half) (f : FaultName) :
    namesFault (a &&& ~~~b) f = (namesFault a f && !namesFault b f) := by
  simp [namesFault]

/-- A pointer less the faults of a set names a fault exactly if it named it and the set does not. -/
theorem filter_not_namesFault_eq_some {p : Option FaultName} {set : Half} {f : FaultName} :
    (p.filter fun g => !namesFault set g) = some f ↔ p = some f ∧ namesFault set f = false := by
  simp [Option.filter_eq_some_iff]

/-- The report unit after CLEAR_FAULTS. -/
theorem clearFaults_report (set : Half) (s : State) :
    (clearFaults set s).report = { s.report with
      status := s.report.status &&& ~~~set
      first := s.report.first.filter fun g => !namesFault set g
      attention := attentionOf s.report.events (s.report.status &&& ~~~set) s.settings.station.mask } := rfl

/-- CLEAR_FAULTS changes the report unit alone. -/
theorem clearFaults_eq (set : Half) (s : State) :
    clearFaults set s = { s with report := (clearFaults set s).report } := rfl

/-- CLEAR_FAULTS at a ready port changes the report unit alone, and that as its effect on the station before the request. -/
theorem request_clearFaults {code : Byte} {args : List Byte} {set : Half} {s : State} (h : Ready s) :
    let t := request code args (fun u => (clearFaults set u, .ok)) s
    t = { served s t with report := (clearFaults set s).report } := by
  intro t
  have heffect : t = served (clearFaults set (capturing (requestBytes code args) s)) t := request_effect h
  rw [capturing_ready h] at heffect
  exact heffect

/-- Settles O9: the port takes the request, and its effect on the report unit is read off field by field. -/
theorem clearFaultsRearms : Obligations.ClearFaultsRearms := by
  unfold Obligations.ClearFaultsRearms
  intro set s h
  have hport (u : State) : (clearFaults set u, Answer.ok).1.port = u.port := clearFaults_port set u
  let t := request 13#8 (halfBytes set) (fun u => (clearFaults set u, .ok)) s
  have ht : t = { served s t with report := (clearFaults set s).report } := request_clearFaults h
  have hreport : t.report = (clearFaults set s).report := by rw [ht]
  have hsettings : t.settings = s.settings := by rw [ht]
  refine ⟨t, rfl, request_answered h hport, request_memory h hport, fun f => ?_, fun f => ?_, ?_, ?_⟩
  · rw [hreport, clearFaults_report]
    exact namesFault_and_not _ _ f
  · rw [hreport, clearFaults_report]
    exact filter_not_namesFault_eq_some
  · rw [hreport, clearFaults_report, hsettings]
    rfl
  · rw [hreport]
    exact ht

end Sys2Proof.Proofs
end
